-- ==== Sys2Proof/Word.lean ====
section
/-! DEFINITION. The word types of the Ustrel 416: bit vectors for what the manual treats as bits
(00_scope.md, Conventions, "Words"; 12_word_and_record_layouts.md). -/

namespace Sys2Proof

/-- A store word: 24 bits, 23 the most significant. -/
abbrev Word := BitVec 24

/-- A store address: 18 bits, so that address arithmetic wraps from 262,143 to 0 (R4). -/
abbrev Addr := BitVec 18

/-- A segment name, 0 to 4095; 0 means unnamed. -/
abbrev Name := BitVec 12

/-- A raster coordinate or beam sample, 0 to 1023. -/
abbrev Coord := BitVec 10

/-- A value of the microsecond time base: 24 bits, wrapping (R1). -/
abbrev Time := BitVec 24

/-- A frame number: 16 bits, wrapping (R14). -/
abbrev FrameNo := BitVec 16

/-- A character's 7-bit glyph (12.1). -/
abbrev Glyph := BitVec 7

end Sys2Proof
end

