-- ==== Sys2Proof/Syntax.lean ====
section
/-! DEFINITION. The commands of the part, one constructor per row of spec/opcode_table.json, and the display
orders that a D-read's stored word decodes to (01_display_orders_and_the_order_follower.md, R3). -/

namespace Sys2Proof

/-- One constructor per row of the table of operations and events. The operands are the pins the event is
presented with: BA, BD, the live beam DEFX and DEFY where the part samples it, and the BND straps where the
part samples those. Events of the part's own timers and counters, and completions at the array, carry none. -/
inductive Instr where
  /-- POWER_UP (R28, R169): PURST is asserted with the BND straps at `straps`. -/
  | powerUp (straps : BitVec 4)
  /-- INIT (R170): the INIT line becomes asserted with the BND straps at `straps`. -/
  | busInit (straps : BitVec 4)
  /-- D_READ (R159): the bus presents a fetch at `ba` while the beam stands at `defx`, `defy`. -/
  | dRead (ba : Addr) (defx defy : Coord)
  /-- P_READ (R158). -/
  | pRead (ba : Addr)
  /-- P_WRITE (R161). -/
  | pWrite (ba : Addr) (bd : Word)
  /-- LOCKED_P_READ (R160). -/
  | lockedPRead (ba : Addr)
  /-- LOCKED_P_WRITE (R160). -/
  | lockedPWrite (ba : Addr) (bd : Word)
  /-- IDLE_CYCLE (R160). -/
  | idleCycle
  /-- OWN_CYCLE_GRANT (R165). -/
  | ownCycleGrant
  /-- CONSUMPTION_WRITE_PLACED (R45). -/
  | consumptionWritePlaced
  /-- WRITE_BACK_PLACED (R153). -/
  | writeBackPlaced
  /-- CLAIM_READ_COMPLETE (R190). -/
  | claimReadComplete
  /-- FILL_WRITE_PLACED (R192). -/
  | fillWritePlaced
  /-- OWNER_WORD_WRITE_PLACED (R192). -/
  | ownerWordWritePlaced
  /-- PHOTO_EDGE (R66): PHOTO changes while the beam stands at `defx`, `defy`. -/
  | photoEdge (defx defy : Coord)
  /-- REPETITION_INTERVAL_EXPIRY (R67), with the beam at `defx`, `defy`. -/
  | repetitionIntervalExpiry (defx defy : Coord)
  /-- LAST_STRIKE_RECORD_DISCARD (R69). -/
  | lastStrikeRecordDiscard
  /-- PINH_CHANGE (R73): PINH takes its other level. -/
  | pinhChange
  /-- TIP_CHANGE (R74): TIP takes its other level. -/
  | tipChange
  /-- DEBOUNCE_EXPIRY (R74). -/
  | debounceExpiry
  /-- FRAME_TIMEOUT_EXPIRY (R26). -/
  | frameTimeoutExpiry
  /-- GATE_CLOSE_BY_LENGTH (R108). -/
  | gateCloseByLength
  /-- DWELL_REPORT (R115). -/
  | dwellReport
  /-- TRACK_LOST (R149). -/
  | trackLost
  /-- ITEM_ECHO_EXPIRY (R176). -/
  | itemEchoExpiry
  /-- POWER_UP_RESET_END (R169): PURST is deasserted. -/
  | powerUpResetEnd
  deriving DecidableEq, Repr

/-- A display order as the Order Follower decodes its order word (R3, 12.1). Fields the part never uses are
not kept. -/
inductive Order where
  | move (x y : Coord)
  | line
  | step (visible : Bool)
  | text (size : BitVec 2) (count : Nat)
  | attr
  | jump (target : Addr)
  | call (target : Addr) (opaqueCall : Bool)
  | ret
  | restart (target : Addr)
  | pass (extra : Nat) (subtype : Nat) (payload : BitVec 12)
  | dot
  | other
  deriving DecidableEq, Repr

end Sys2Proof
end

