-- ==== Sys2Proof/Decode.lean ====
section
/-! DEFINITION. Decoding. The table of operations gives no row any bits, so no word spells a command; the words
the part does decode are display orders (R3, R200, 12.1), which are read here, once, field by field. -/

namespace Sys2Proof

/-- The command a word of the table's bits spells: none, since spec/opcode_table.json gives no row bits. -/
def decodeTableWord (_nbits _w : Nat) : Option Instr := none

/-- `len` bits of a store word from bit `lo` up (R200). -/
def bitsAt (w : Word) (lo len : Nat) : BitVec len := w.extractLsb' lo len

/-- One bit of a store word. -/
def flagAt (w : Word) (i : Nat) : Bool := w.getLsbD i

/-- An 18-bit address field in bits 17..0. -/
def addrField (w : Word) : Addr := bitsAt w 0 18

/-- The order a stored word decodes to as an order word (R3, 12.1). -/
def decodeOrder (w : Word) : Order :=
  match (bitsAt w 20 4).toNat with
  | 0 => .move (bitsAt w 10 10) (bitsAt w 0 10)
  | 1 => .line
  | 2 => .step (flagAt w 19)
  | 3 => .text (bitsAt w 18 2) (bitsAt w 0 8).toNat
  | 4 => .attr
  | 5 => .jump (addrField w)
  | 6 => .call (addrField w &&& ~~~1#18) (flagAt w 0)
  | 7 => .ret
  | 8 => .restart (addrField w)
  | 9 => .pass (bitsAt w 17 3).toNat (bitsAt w 12 5).toNat (bitsAt w 0 12)
  | 10 => .dot
  | _ => .other

/-- How many words an order occupies (R3). -/
def Order.words : Order → Nat
  | .text _ n => 1 + (n + 2) / 3
  | .pass e _ _ => 1 + e
  | .move _ _ | .line | .step _ | .attr | .jump _ | .call _ _ | .ret | .restart _ | .dot | .other => 1

/-- The pitch, in raster units, of a TEXT's size code (R3). -/
def pitchOf (size : BitVec 2) : Nat :=
  match size.toNat with
  | 0 => 7
  | 1 => 10
  | 2 => 14
  | _ => 20

/-- The character byte at position 0, 1 or 2 of a TEXT operand word: bits 23..16, 15..8, 7..0 (12.1). -/
def charAt (w : Word) (i : Nat) : BitVec 8 := bitsAt w (16 - 8 * i) 8

/-- The glyph of a character byte: its bits 6..0. -/
def glyphOf (c : BitVec 8) : Glyph := c.extractLsb' 0 7

/-- The emphasis bit of a character byte: its bit 7. -/
def emphasisOf (c : BitVec 8) : Bool := c.getLsbD 7

/-- A character byte from its emphasis bit and glyph. -/
def makeChar (emphasis : Bool) (g : Glyph) : BitVec 8 := BitVec.ofBool emphasis ++ g

/-- A TEXT operand word from its three character bytes. -/
def makeTextWord (c₀ c₁ c₂ : BitVec 8) : Word := c₀ ++ c₁ ++ c₂

/-- A word whose opcode is as in `w` and whose X and Y are replaced (R152, R178). -/
def withXY (w : Word) (x y : Coord) : Word := bitsAt w 20 4 ++ x ++ y

/-- An ATTR word with its blink and intensity replaced, bits 4 and 3..0 (R175). -/
def withBlinkIntensity (w : Word) (blink : Bool) (intensity : BitVec 4) : Word :=
  bitsAt w 5 19 ++ BitVec.ofBool blink ++ intensity

/-- The consumption word: PASS NOP with the same extra-word count, every other bit 0 (R45, 12.2). -/
def consumptionWord (extra : Nat) : Word :=
  (9#4 ++ BitVec.ofNat 3 extra ++ 0#17 : BitVec 24)

end Sys2Proof
end

