-- ==== Sys2Proof/Config.lean ====
section
/-! DEFINITION. What the manual leaves open: the one stream of free choices, and the word an unwritten
store cell reads as. -/

namespace Sys2Proof

/-- FREE VALUE (assumption log 2). Where several blocks take one event and the manual lets any of them be
first, the `n`-th such choice of a run is `Config.choice n`: it has no body, so that nothing can be proved
of it and a claim holds for every order. -/
opaque Config.choice : Nat → Nat

/-- What a store word reads as before anything has written it. DESIGN CHOICE (assumption log 3, unsafe): the
manual gives the refresh store no contents after power-up. -/
def Config.unwrittenWord : Word := 0

end Sys2Proof
end

