-- ==== Sys2Proof/Machine/State.lean ====
section
/-! DEFINITION. The machine's state: plain data, block by block as the manual's chapters give it, the refresh
store behind the part, the pins, the time base, the requests of the present moment and the queue of waiting commands. -/

namespace Sys2Proof.Machine

/-! ### Order Follower (01_display_orders_and_the_order_follower.md) -/

/-- R6, R7, R9. -/
inductive FollowState where
  | waiting | following | lost
  deriving DecidableEq, Repr

/-- R26, R27. -/
inductive DisplayState where
  | running | stopped
  deriving DecidableEq, Repr

/-- A pushed level of the Context Stack (R16). -/
structure Level where
  name : Name
  returnAddr : Addr
  opaqueCall : Bool
  deriving DecidableEq, Repr

/-- The pending transfer (R10); a RETURN finds its target at the pop. -/
inductive Transfer where
  | jump (target : Addr)
  | call (target : Addr) (opaqueCall : Bool)
  | ret
  deriving DecidableEq, Repr

/-- The record of the order in progress (R5), with what the hand-off at its last word needs: the stored
words so far (R24), the order's effective name and path (R25) and a TEXT's MENU flag (R21). -/
structure InProgress where
  addr : Addr
  order : Order
  words : Nat
  fetched : Nat
  stored : List Word
  name : Name
  path : List Name
  menu : Bool
  deriving DecidableEq, Repr

/-- The kinds of visible order (R21). -/
inductive VisibleKind where
  | line | step | dot | text
  deriving DecidableEq, Repr

/-- The TEXT part of a Fetch History entry (R21). -/
structure TextPart where
  startX : Coord
  pitch : Nat
  count : Nat
  fetched : Nat
  menu : Bool
  deriving DecidableEq, Repr

/-- A Fetch History entry (R21). -/
structure HistoryEntry where
  addr : Addr
  kind : VisibleKind
  fetchTime : Time
  name : Name
  path : List Name
  edited : Bool
  text : Option TextPart
  deriving DecidableEq, Repr

/-- The Order Follower's state (R5, R6, R8, R10, R14, R16, R21, R26, R28). `pushed` and `history` stand
oldest (outermost) first. -/
structure Follower where
  follow : FollowState
  resync : Option Addr
  rootName : Name
  pushed : List Level
  transfer : Option Transfer
  inProgress : Option InProgress
  expected : Option Addr
  history : List HistoryEntry
  frameNo : FrameNo
  display : DisplayState
  timeoutSince : Time
  timeoutArmed : Bool
  tFT : Nat
  pendingTFT : Option Nat
  deriving DecidableEq, Repr

/-! ### Pass Decoder (02_pass_orders_setup_protection_and_commands.md) -/

/-- A Consumption List entry (R43), with the extra-word count its write preserves (R45). -/
structure Consumption where
  addr : Addr
  extra : Nat
  deriving DecidableEq, Repr

/-- The Pass Decoder's state (R33, R34, R43). -/
structure PassDecoder where
  straps : BitVec 4
  protectedReported : Bool
  consumption : List Consumption
  deriving DecidableEq, Repr

/-! ### Segment Table (03_the_segment_table.md) -/

inductive Sensitivity where
  | pick | locked | blind
  deriving DecidableEq, Repr

inductive Highlight where
  | none | bright | dim | blink
  deriving DecidableEq, Repr

inductive Trigger where
  | tip | dwell
  deriving DecidableEq, Repr

inductive Axis where
  | a | b
  deriving DecidableEq, Repr

inductive Form where
  | linear | station
  deriving DecidableEq, Repr

inductive Fill where
  | zero | blank
  deriving DecidableEq, Repr

/-- The readout part of an attribute set (R50). -/
structure ReadoutPart where
  axis : Axis
  form : Form
  digits : Nat
  fill : Fill
  overflowMark : Glyph
  deriving DecidableEq, Repr

/-- The class of an attribute set together with the part that belongs to it: a set never holds both parts,
and a DRAW set has neither (R50). -/
inductive ClassPart where
  | draw
  | menu (separator : Glyph) (trigger : Trigger)
  | readout (part : ReadoutPart)
  deriving DecidableEq, Repr

/-- An attribute set (R50). -/
structure Attributes where
  classPart : ClassPart
  sensitivity : Sensitivity
  priority : Nat
  highlight : Highlight
  boost : Nat
  deriving DecidableEq, Repr

/-- A Segment Table entry (R49). -/
structure Segment where
  name : Name
  active : Attributes
  shadow : Option Attributes
  lastSeen : FrameNo
  dropPending : Bool
  deriving DecidableEq, Repr

/-- The Segment Table (R49, R55). The entries keep no order among themselves; they are held by rising name. -/
structure SegmentTable where
  entries : List Segment
  fullReported : Bool
  deriving DecidableEq, Repr

/-! ### Pen Front End (04_the_pen_front_end.md) -/

inductive EdgeMode where
  | rising | falling | any | level
  deriving DecidableEq, Repr

inductive InhibitMode where
  | level | latch
  deriving DecidableEq, Repr

/-- The pen settings group (R65): tLW and tDT in µs, tDB in ms. -/
structure PenSettings where
  edgeMode : EdgeMode
  photoInvert : Bool
  tipInvert : Bool
  inhibitMode : InhibitMode
  tLW : Nat
  tDT : Nat
  strikeLimit : Nat
  tDB : Nat
  deriving DecidableEq, Repr

/-- A running interval: the time-base value it was started at and its length in µs. -/
structure Interval where
  since : Time
  length : Nat
  deriving DecidableEq, Repr

inductive TipState where
  | up | down
  deriving DecidableEq, Repr

/-- The Pen Front End's state (R65 to R77). `photoLevel` is the conditioned level and edge reference. -/
structure Pen where
  active : PenSettings
  shadow : Option PenSettings
  photoLevel : Bool
  repetition : Option Interval
  lastStrike : Option Time
  strikes : Nat
  inhibitLatch : Bool
  followCopy : FollowState
  displayCopy : DisplayState
  tipLevel : Bool
  tip : TipState
  debounce : Option Interval
  deriving DecidableEq, Repr

/-! ### Menu Map (05_strike_attribution_and_the_menu_map.md) -/

/-- An item: its start and its length (R93). -/
structure Item where
  start : Nat
  length : Nat
  deriving DecidableEq, Repr

/-- A Menu Map entry (R93). -/
structure MenuEntry where
  addr : Addr
  name : Name
  count : Nat
  separator : Glyph
  scanned : Nat
  items : List Item
  valid : Bool
  deriving DecidableEq, Repr

/-! ### Gate Unit (06_pick_gates_dwell_and_hover.md) -/

/-- The side of a loft conversion (R124). -/
inductive Side where
  | none | fore | aft
  deriving DecidableEq, Repr

/-- The gate settings group (R101). -/
structure GateSettings where
  length : Nat
  dwell : Nat
  hover : Bool
  deriving DecidableEq, Repr

/-- A key: a name, and an item number or none (R90). -/
structure Key where
  name : Name
  item : Option Nat
  deriving DecidableEq, Repr

/-- An item descriptor (R91). -/
structure ItemDesc where
  textAddr : Addr
  start : Nat
  length : Nat
  deriving DecidableEq, Repr

/-- The latest fields of a key (R102), with the stale flag of R106 and R114. -/
structure Snapshot where
  orderAddr : Addr
  path : List Name
  edited : Bool
  locked : Bool
  sampleX : Coord
  sampleY : Coord
  loftA : Int
  loftB : Int
  side : Side
  item : Option ItemDesc
  stale : Bool
  deriving DecidableEq, Repr

/-- A Tally entry (R102). -/
structure TallyEntry where
  key : Key
  votes : Nat
  topPriority : Nat
  lastVote : Time
  latest : Snapshot
  deriving DecidableEq, Repr

/-- The fields an OPEN gate holds besides the Tally (R102). `comparedLength` is the model's own: the L the
frame count was last compared with (R108). -/
structure OpenGate where
  openTime : Time
  frameCount : Nat
  crowded : Bool
  comparedLength : Nat
  deriving DecidableEq, Repr

/-- The Dwell Record (R112). `comparedDwell` is the model's own: the D the count was last compared with
(R114). -/
structure DwellRecord where
  key : Option Key
  count : Nat
  spent : Bool
  won : Bool
  snapshot : Option Snapshot
  candidate : Option (Key × Snapshot)
  comparedDwell : Nat
  deriving DecidableEq, Repr

/-- The Hover Record, when present (R116). -/
structure HoverRecord where
  key : Key
  item : ItemDesc
  won : Bool
  deriving DecidableEq, Repr

/-- The last-pick record, when present (R111). -/
structure LastPick where
  sampleX : Coord
  sampleY : Coord
  loftA : Int
  loftB : Int
  side : Side
  deriving DecidableEq, Repr

/-- The Gate Unit's state (R101, R102, R111, R112, R116). The gate is CLOSED when `gate` is `none`. -/
structure GateUnit where
  active : GateSettings
  shadow : Option GateSettings
  gate : Option OpenGate
  tally : List TallyEntry
  dwell : DwellRecord
  hover : Option HoverRecord
  lastPick : Option LastPick
  deriving DecidableEq, Repr

/-! ### Loft Arithmetic Unit (07_loft_coordinate_arithmetic.md) -/

inductive View where
  | plan | sheer | body
  deriving DecidableEq, Repr

inductive Rounding where
  | rn | rz | rp | rm
  deriving DecidableEq, Repr

/-- The view settings group (R122). -/
structure ViewSettings where
  view : View
  rounding : Rounding
  scale : Nat
  originA : Int
  originB : Int
  centreline : Nat
  grid : Nat
  spacing : Nat
  frameZero : Int
  deriving DecidableEq, Repr

/-- The readout string (R132): one entry for each character index, a glyph or "stored" (`none`). -/
structure ReadoutString where
  addr : Addr
  count : Nat
  entries : List (Option Glyph)
  deriving DecidableEq, Repr

/-- The Loft Arithmetic Unit's state (R122, R132). -/
structure LoftUnit where
  active : ViewSettings
  shadow : Option ViewSettings
  readout : Option ReadoutString
  deriving DecidableEq, Repr

/-! ### Tracking Unit (08_tracking.md) -/

inductive TrackState where
  | off | tracking | lost
  deriving DecidableEq, Repr

/-- The tracking settings group (R140). -/
structure TrackSettings where
  crossName : Name
  gainShift : Nat
  lossLimit : Nat
  xmin : Coord
  xmax : Coord
  ymin : Coord
  ymax : Coord
  deriving DecidableEq, Repr

/-- The cross order record (R142). -/
structure CrossRecord where
  addr : Addr
  word : Word
  fetchedThisFrame : Bool
  substituted : Bool
  deriving DecidableEq, Repr

/-- An outstanding write-back (R152); `granted` says that its own cycle is the one in progress at the port. -/
structure WriteBack where
  addr : Addr
  word : Word
  granted : Bool
  deriving DecidableEq, Repr

/-- The Tracking Unit's state (R140, R141). `comparedLoss` is the model's own: the T the loss count was last
compared with (R149). -/
structure Tracker where
  active : TrackSettings
  shadow : Option TrackSettings
  state : TrackState
  tx : Coord
  ty : Coord
  crossStruck : Bool
  lossCount : Nat
  comparedLoss : Nat
  lastReported : Option (Coord × Coord)
  sightedThisFrame : Bool
  sightedLastFrame : Bool
  cross : Option CrossRecord
  writeBack : Option WriteBack
  deriving DecidableEq, Repr

/-! ### Echo Unit (10_echo_in_passage.md) -/

/-- The item echo, when present (R173). -/
structure ItemEcho where
  textAddr : Addr
  start : Nat
  length : Nat
  frames : Nat
  deriving DecidableEq, Repr

/-- The text record, when present (R173). -/
structure TextRecord where
  addr : Addr
  count : Nat
  name : Name
  readout : Bool
  deriving DecidableEq, Repr

/-- The Echo Unit's state (R173). -/
structure EchoUnit where
  picked : Option Name
  item : Option ItemEcho
  text : Option TextRecord
  readouts : List (Name × Addr)
  deriving DecidableEq, Repr

/-! ### Report Writer (11_reports_and_the_report_ring.md) -/

inductive ReportKind where
  | pick | item | miss | track | trackEnd | trackLost | refusal | condition | mark
  deriving DecidableEq, Repr

/-- The ten flags of a report record (R184). -/
structure ReportFlags where
  gap : Bool := false
  ambiguous : Bool := false
  crowded : Bool := false
  edited : Bool := false
  stale : Bool := false
  locked : Bool := false
  dwell : Bool := false
  stopped : Bool := false
  lost : Bool := false
  reacquired : Bool := false
  deriving DecidableEq, Repr

/-- A report record (R184). An absent field is `none`, an absent path is empty. -/
structure Report where
  kind : ReportKind
  flags : ReportFlags := {}
  side : Side := .none
  frame : FrameNo
  name : Option Name := none
  item : Option Nat := none
  orderAddr : Option Addr := none
  path : List Name := []
  loft : Option (Int × Int) := none
  sample : Option (Coord × Coord) := none
  winnerVotes : Nat := 0
  runnerVotes : Nat := 0
  runner : Option Key := none
  itemSpan : Option (Nat × Nat) := none
  code : Option Nat := none
  stamp : Time
  deriving DecidableEq, Repr

/-- The ring settings (R196). -/
structure Ring where
  base : Addr
  slots : Nat
  deriving DecidableEq, Repr

/-- The state of a slot in the Slot Map (R194). -/
inductive SlotState where
  | unknown | free | filling | written | occupied
  deriving DecidableEq, Repr

/-- The step of a write-out (R189); FILLING carries the next word to be written, 1 to 15. -/
inductive WriteStep where
  | claim | waiting | filling (next : Nat) | publish
  deriving DecidableEq, Repr

/-- A write-out in progress (R189). -/
structure WriteOut where
  report : Report
  slot : Nat
  step : WriteStep
  deriving DecidableEq, Repr

/-- The Report Writer's state (R186, R189, R192, R194 to R196). The write-out is idle when `writeOut` is
`none`. -/
structure ReportWriter where
  ring : Option Ring
  shadow : Option Ring
  deferral : Bool
  slots : List SlotState
  pointer : Nat
  sequence : Nat
  queue : List Report
  gap : Bool
  writeOut : Option WriteOut
  attention : Bool
  deriving DecidableEq, Repr

/-! ### Strike results being handed on (R84, R91, R92) -/

/-- A winner result (R91). -/
structure Winner where
  time : Time
  sampleX : Coord
  sampleY : Coord
  key : Key
  orderAddr : Addr
  path : List Name
  edited : Bool
  priority : Nat
  isMenu : Bool
  locked : Bool
  item : Option ItemDesc
  deriving DecidableEq, Repr

/-- What the Strike Attributor hands the Tracking Unit, each with its strike time: the sample of a cross strike, or a
sighting (R84, R92). -/
inductive CrossHandOff where
  | result (time : Time) (x y : Coord)
  | sighting (time : Time)
  deriving DecidableEq, Repr

/-- The strike results and sightings handed on that the Gate Unit and the Tracking Unit have still to take, oldest first
(R92, R104, R144, R148). The model's own (assumption log 25). -/
structure HandOffs where
  gate : List Winner
  tracker : List CrossHandOff
  deriving DecidableEq, Repr

/-- Nothing handed on that is still to be taken. -/
def HandOffs.none : HandOffs := { gate := [], tracker := [] }

/-! ### Requests of the present moment (R183, R199) -/

/-- A request handed to the Echo Unit (R174, R176). -/
inductive EchoRequest where
  | pick (name : Name)
  | item (desc : ItemDesc)
  deriving DecidableEq, Repr

/-- The requests handed over in the present microsecond, oldest first, to the Echo Unit and to the Report Writer. Each
has been taken when it was handed over; an INIT of the same microsecond may still be taken before it (R183, R199). The
model's own (assumption log 22). -/
structure Moment where
  echo : List EchoRequest
  reports : List Report
  deriving DecidableEq, Repr

/-! ### Store Passage (09_the_store_passage.md) -/

/-- A cycle the terminal bus presents (R157). A D-read carries the beam that stands on DEFX and DEFY while
the display processor waits for it. -/
inductive BusCycle where
  | dRead (ba : Addr) (defx defy : Coord)
  | pRead (ba : Addr)
  | pWrite (ba : Addr) (bd : Word)
  | lockedPRead (ba : Addr)
  | lockedPWrite (ba : Addr) (bd : Word)
  | idle
  deriving DecidableEq, Repr

/-- An own-cycle request (R163): its requester and kind, its address and, for a write, its word. -/
inductive OwnCycle where
  | consumption (addr : Addr) (word : Word)
  | writeBack (addr : Addr) (word : Word)
  | claim (addr : Addr)
  | fill (addr : Addr) (word : Word)
  | owner (addr : Addr) (word : Word)
  deriving DecidableEq, Repr

/-- What the array is doing (signal list, MCYC). -/
inductive ArrayCycle where
  | idle | read | write
  deriving DecidableEq, Repr

/-- The notice of a P-write: the written address and the written data (R161). -/
structure Notice where
  addr : Addr
  data : Word
  deriving DecidableEq, Repr

/-- The notices being taken: those that each of the five watchers has still to take, oldest first, and the texts of
the invalidation notices that the Menu Map has handed the Gate Unit and that it has still to take (R97, R161,
R162). -/
structure Notices where
  follower : List Notice
  menuMap : List Notice
  pass : List Notice
  tracker : List Notice
  reports : List Notice
  gate : List Addr
  deriving DecidableEq, Repr

/-- No notice being taken (R169). -/
def Notices.none : Notices := { follower := [], menuMap := [], pass := [], tracker := [], reports := [], gate := [] }

/-- The Store Passage's state (R157, R160, R162, R163, R166, R169). `port` is the own cycle in progress at the
array; `held` the bus cycles not yet carried, the presented one first; `resetInForce` says that PURST is
asserted; `pairWritten` says that the locked P-write of the held lock has completed, so that the lock is released
once its notice has been taken (R160). -/
structure Passage where
  port : Option OwnCycle
  lockHeld : Bool
  pairWritten : Bool
  fairShare : Nat
  held : List BusCycle
  resetInForce : Bool
  notices : Notices
  deriving DecidableEq, Repr

/-! ### Pins, store, machine -/

/-- The pins (00_scope.md, signal list). The inputs hold the level last presented, the outputs the value
last driven; ATTENTION is held by the Report Writer. -/
structure Pins where
  photo : Bool
  tip : Bool
  pinh : Bool
  defx : Coord
  defy : Coord
  bd : Word
  bwait : Bool
  ma : Addr
  md : Word
  mcyc : ArrayCycle
  deriving DecidableEq, Repr

/-- The refresh store: address and word pairs, the addresses strictly rising, no word equal to what an
unlisted address reads as. -/
abbrev Store := List (Nat × Word)

/-- The machine. `store` is the refresh store on the array side; `handed`, `moment` and `choices`, which counts
the free choices drawn, are the model's own; `pending` is the queue of the commands that wait, first in, first out. -/
structure State where
  time : Time
  pins : Pins
  store : Store
  follower : Follower
  pass : PassDecoder
  segments : SegmentTable
  pen : Pen
  menuMap : List MenuEntry
  gate : GateUnit
  loft : LoftUnit
  tracker : Tracker
  echo : EchoUnit
  reports : ReportWriter
  passage : Passage
  handed : HandOffs
  moment : Moment
  choices : Nat
  pending : List Instr
  deriving DecidableEq, Repr

/-! ### Power-up values -/

/-- R65. -/
def PenSettings.powerUp : PenSettings :=
  { edgeMode := .rising, photoInvert := false, tipInvert := false, inhibitMode := .level,
    tLW := 3, tDT := 12, strikeLimit := 6, tDB := 6 }

/-- R101, R120. -/
def GateSettings.powerUp : GateSettings := { length := 4, dwell := 6, hover := true }

/-- R122, R138. -/
def ViewSettings.powerUp : ViewSettings :=
  { view := .plan, rounding := .rn, scale := 256, originA := 0, originB := 0, centreline := 512,
    grid := 0, spacing := 600, frameZero := 0 }

/-- R140, R155. -/
def TrackSettings.powerUp : TrackSettings :=
  { crossName := 0, gainShift := 1, lossLimit := 5, xmin := 0, xmax := 1023, ymin := 0, ymax := 1023 }

/-- R112, R120: an empty Dwell Record. -/
def DwellRecord.empty : DwellRecord :=
  { key := none, count := 0, spent := false, won := false, snapshot := none, candidate := none,
    comparedDwell := 0 }

/-- R28, with tFT as given and the frame timeout restarted at `now`. -/
def Follower.reset (tFT : Nat) (now : Time) : Follower :=
  { follow := .waiting, resync := none, rootName := 0, pushed := [], transfer := none,
    inProgress := none, expected := none, history := [], frameNo := 0, display := .running,
    timeoutSince := now, timeoutArmed := true, tFT := tFT, pendingTFT := none }

/-- R33, R47. -/
def PassDecoder.reset (straps : BitVec 4) : PassDecoder :=
  { straps := straps, protectedReported := false, consumption := [] }

/-- R182. -/
def EchoUnit.reset : EchoUnit := { picked := none, item := none, text := none, readouts := [] }

/-- R120, with the active settings as given. -/
def GateUnit.reset (active : GateSettings) : GateUnit :=
  { active := active, shadow := none, gate := none, tally := [], dwell := .empty, hover := none,
    lastPick := none }

/-- R138, with the active settings as given. -/
def LoftUnit.reset (active : ViewSettings) : LoftUnit :=
  { active := active, shadow := none, readout := none }

/-- R155, with the active settings and the position as given. -/
def Tracker.reset (active : TrackSettings) (tx ty : Coord) : Tracker :=
  { active := active, shadow := none, state := .off, tx := tx, ty := ty, crossStruck := false,
    lossCount := 0, comparedLoss := active.lossLimit, lastReported := none, sightedThisFrame := false,
    sightedLastFrame := false, cross := none, writeBack := none }

/-- R198. -/
def ReportWriter.powerUp : ReportWriter :=
  { ring := none, shadow := none, deferral := false, slots := [], pointer := 0, sequence := 1,
    queue := [], gap := false, writeOut := none, attention := false }

/-- No request of the present moment. -/
def Moment.empty : Moment := { echo := [], reports := [] }

/-- R169. -/
def Passage.reset (resetInForce : Bool) : Passage :=
  { port := none, lockHeld := false, pairWritten := false, fairShare := 0, held := [], resetInForce := resetInForce
    notices := .none }

/-- The machine right after power-up, PURST just released: R28, R47, R62, R77, R99, R120, R138, R155, R169,
R182, R198. The lines PHOTO, TIP and PINH are found low, DEFX and DEFY 0, the straps 0 and the store
unwritten (DESIGN CHOICE, assumption log 3 and 4). -/
def State.reset : State :=
  { time := 0
    pins := { photo := false, tip := false, pinh := false, defx := 0, defy := 0, bd := 0,
              bwait := false, ma := 0, md := 0, mcyc := .idle }
    store := []
    follower := Follower.reset 100 0
    pass := PassDecoder.reset 0
    segments := { entries := [], fullReported := false }
    pen := { active := .powerUp, shadow := none, photoLevel := false, repetition := none,
             lastStrike := none, strikes := 0, inhibitLatch := false, followCopy := .waiting,
             displayCopy := .running, tipLevel := false, tip := .up, debounce := none }
    menuMap := []
    gate := GateUnit.reset .powerUp
    loft := LoftUnit.reset .powerUp
    tracker := Tracker.reset .powerUp 512 512
    echo := EchoUnit.reset
    reports := ReportWriter.powerUp
    passage := Passage.reset false
    handed := .none
    moment := .empty
    choices := 0
    pending := [] }

/-! ### Outcomes -/

/-- Why a step could stop with a fault: never. The manual names no error that stops the part, every address
is a store address (R157), and a command whose condition does not hold changes nothing, so that the type has
no constructor and nothing raises one (safe). -/
inductive Fault where
  deriving DecidableEq, Repr

/-- Why a step could be refused. -/
inductive Refusal where
  /-- Raised by `exec`'s own arm for a row of the table without a meaning, and by nothing else; no arm
  of this model raises it (safe). -/
  | notModelled (mnemonic : String)
  deriving DecidableEq, Repr

/-- A step's outcome. -/
abbrev Result := Host.Outcome State Fault Refusal

/-! ### Block updates: the only way the operations change a block (`Sys2Proof/Laws/State.lean`) -/

def State.setTime (s : State) (x : Time) : State := { s with time := x }
def State.setPins (s : State) (x : Pins) : State := { s with pins := x }
def State.setStore (s : State) (x : Store) : State := { s with store := x }
def State.setFollower (s : State) (x : Follower) : State := { s with follower := x }
def State.setPass (s : State) (x : PassDecoder) : State := { s with pass := x }
def State.setSegments (s : State) (x : SegmentTable) : State := { s with segments := x }
def State.setPen (s : State) (x : Pen) : State := { s with pen := x }
def State.setMenuMap (s : State) (x : List MenuEntry) : State := { s with menuMap := x }
def State.setGate (s : State) (x : GateUnit) : State := { s with gate := x }
def State.setLoft (s : State) (x : LoftUnit) : State := { s with loft := x }
def State.setTracker (s : State) (x : Tracker) : State := { s with tracker := x }
def State.setEcho (s : State) (x : EchoUnit) : State := { s with echo := x }
def State.setReports (s : State) (x : ReportWriter) : State := { s with reports := x }
def State.setPassage (s : State) (x : Passage) : State := { s with passage := x }
def State.setNotices (s : State) (x : Notices) : State := s.setPassage { s.passage with notices := x }
def State.setHanded (s : State) (x : HandOffs) : State := { s with handed := x }
def State.setMoment (s : State) (x : Moment) : State := { s with moment := x }
def State.setChoices (s : State) (x : Nat) : State := { s with choices := x }
def State.setPending (s : State) (x : List Instr) : State := { s with pending := x }

end Sys2Proof.Machine
end

