-- ==== Sys2Proof/Machine/Ops.lean ====
section
/-! DEFINITION. The shared operations: time-base differences, the refresh store, pins, free orders, taking
what waits, clamping and the shadow rule. -/

namespace Sys2Proof.Machine

/-! ### Time base (R1) -/

/-- The time from `since` to `now`, as a difference modulo 2^24 (R1). -/
def elapsed (now since : Time) : Nat := (now - since).toNat

/-- Whether `t` is earlier than `ref`: their difference modulo 2^24 is 8,388,608 or more (R1). -/
def earlier (t ref : Time) : Bool := 8388608 ≤ elapsed t ref

/-- Whether a running interval has reached its end. -/
def Interval.expired (i : Interval) (now : Time) : Bool := i.length ≤ elapsed now i.since

/-- A duration in milliseconds as microseconds (R1). -/
def milliseconds (ms : Nat) : Nat := ms * 1000

/-! ### The refresh store (00_scope.md, "Refresh store"; R158, R164) -/

/-- The stored word at an address. -/
def Store.readAt : Store → Nat → Word
  | [], _ => Config.unwrittenWord
  | (k, w) :: m, a => if k = a then w else Store.readAt m a

/-- A write of one word, which keeps the canonical form. -/
def Store.writeAt : Store → Nat → Word → Store
  | [], a, v => if v = Config.unwrittenWord then [] else [(a, v)]
  | (k, w) :: m, a, v =>
    if a < k then (if v = Config.unwrittenWord then (k, w) :: m else (a, v) :: (k, w) :: m)
    else if a = k then (if v = Config.unwrittenWord then m else (a, v) :: m)
    else (k, w) :: Store.writeAt m a v

/-- The canonical form: addresses of the store, strictly rising, none holding what an unlisted one reads
as. -/
abbrev Store.wf (m : Store) : Prop :=
  m.Pairwise (fun c d => c.1 < d.1) ∧ ∀ c ∈ m, c.1 < 262144 ∧ c.2 ≠ Config.unwrittenWord

/-- The stored word at an 18-bit address. -/
def State.word (s : State) (a : Addr) : Word := Store.readAt s.store a.toNat

/-- The array after a write of one word: the store, and the array-side pins (R157, R164). -/
def arrayWrite (a : Addr) (w : Word) (s : State) : State :=
  (s.setStore (Store.writeAt s.store a.toNat w)).setPins
    { s.pins with ma := a, md := w, mcyc := .idle }

/-- The array-side pins after a read of one word has completed (R157, R164). -/
def arrayRead (a : Addr) (s : State) : State :=
  s.setPins { s.pins with ma := a, md := s.word a, mcyc := .idle }

/-- The answer to a read, driven on BD (R157). -/
def driveBD (w : Word) (s : State) : State := s.setPins { s.pins with bd := w }

/-- The live beam, as the display processor presents it on DEFX and DEFY (R71). -/
def presentBeam (x y : Coord) (s : State) : State := s.setPins { s.pins with defx := x, defy := y }

/-- The address `k` words after `a`, with the wrap of R4. -/
def Addr.plus (a : Addr) (k : Nat) : Addr := a + BitVec.ofNat 18 k

/-- Whether `a` lies within the `words` words that start at `start`, with the wrap of R4. -/
def inSpan (a start : Addr) (words : Nat) : Bool := (a - start).toNat < words

/-! ### Free orders (assumption log 2) -/

/-- `x` put into a list at a position. -/
def insertAt {α : Type} (x : α) : Nat → List α → List α
  | 0, l => x :: l
  | _ + 1, [] => [x]
  | n + 1, y :: l => y :: insertAt x n l

/-- The order of a list that a number picks: every order is picked by some number. -/
def permute {α : Type} : Nat → List α → List α
  | _, [] => []
  | c, x :: l => insertAt x (c % (l.length + 1)) (permute (c / (l.length + 1)) l)

/-- The next free choice. -/
def drawn (s : State) : Nat := Config.choice s.choices

/-- The state once its next free choice has been drawn. -/
def afterDraw (s : State) : State := s.setChoices (s.choices + 1)

/-! ### What waits to be taken (assumption logs 8 and 25) -/

/-- The oldest of a list taken one after another. -/
def takeOldest {α : Type} (n : Nat) (q : List α) (react : α → State → State) (s : State) : State :=
  (q.take n).foldl (fun s x => react x s) s

/-- A free number of what waits, of a given length, taken. -/
def takeSome (length : Nat) (take : Nat → State → State) (s : State) : State :=
  if length = 0 then s else take (drawn s % (length + 1)) (afterDraw s)

/-! ### Clamping and shadows (R32, R36) -/

/-- The legal value nearest to `v` (R32). -/
def clampNat (lo hi v : Nat) : Nat := max lo (min hi v)

/-- The legal value nearest to `v`, for a signed field (R32). -/
def clampInt (lo hi v : Int) : Int := max lo (min hi v)

/-- The coordinate nearest to `v` within a pair of coordinates (R145, R148, R150). -/
def clampCoord (lo hi : Coord) (v : Int) : Coord :=
  if v < lo.toNat then lo else if v > hi.toNat then hi else BitVec.ofNat 10 v.toNat

/-- R36, step 1: the present values of a settings group, the pending shadow's if there is one. -/
def presentValue {α : Type} (active : α) (shadow : Option α) : α := shadow.getD active

/-- R36, steps 2 and 3: the shadow a candidate set leaves, empty when it equals the active value. -/
def shadowOf {α : Type} [DecidableEq α] (active candidate : α) : Option α :=
  if candidate = active then none else some candidate

/-! ### Requests -/

/-- The report record's frame number and time stamp, both as they stand at the request (R184). -/
def newReport (kind : ReportKind) (s : State) : Report :=
  { kind := kind, frame := s.follower.frameNo, stamp := s.time }

end Sys2Proof.Machine
end

