-- ==== Sys2Proof/Machine/EchoRecords.lean ====
section
/-! DEFINITION. The Echo Unit's records: how they are set, cleared and counted
(10_echo_in_passage.md, R173, R174, R176, R181). -/

namespace Sys2Proof.Machine

/-- An echo request kept with those of the present moment (R183, assumption log 22). -/
def handEcho (r : EchoRequest) (s : State) : State :=
  s.setMoment { s.moment with echo := s.moment.echo ++ [r] }

/-- The echo requests so far taken for good: no INIT comes before them (R183, assumption log 22). -/
def settleEcho (s : State) : State := s.setMoment { s.moment with echo := [] }

/-- A picked-segment echo request (R174). -/
def echoPick (n : Name) (s : State) : State := handEcho (.pick n) (s.setEcho { s.echo with picked := some n })

/-- A gate-open notice (R174), which the Gate Unit sends after its requests. -/
def echoGateOpened (s : State) : State := settleEcho (s.setEcho { s.echo with picked := none })

/-- An item echo request (R176). -/
def echoItem (d : ItemDesc) (s : State) : State :=
  handEcho (.item d) (s.setEcho { s.echo with
    item := some { textAddr := d.textAddr, start := d.start, length := d.length, frames := 8 } })

/-- A request taken by the Echo Unit (R174, R176). -/
def takeEcho (r : EchoRequest) (s : State) : State :=
  match r with
  | .pick n => echoPick n s
  | .item d => echoItem d s

/-- CLEAR-ECHO taken (R174, R176). -/
def echoClear (s : State) : State := s.setEcho { s.echo with picked := none, item := none }

/-- The drop offer of the Segment Table (R61, R174). -/
def echoDropped (names : List Name) (s : State) : State :=
  match s.echo.picked with
  | some n => if n ∈ names then s.setEcho { s.echo with picked := none } else s
  | none => s

/-- The item echo whose frame count has reached 0 becomes absent (R176). -/
def itemEchoRunOut (s : State) : State :=
  match s.echo.item with
  | some i => if i.frames = 0 then s.setEcho { s.echo with item := none } else s
  | none => s

/-- The Echo Unit's frame end (R176, R181). -/
def echoFrameEnd (s : State) : State :=
  itemEchoRunOut (s.setEcho { s.echo with
    item := s.echo.item.map (fun i => { i with frames := i.frames - 1 })
    readouts := [] })

end Sys2Proof.Machine
end

