-- ==== Sys2Proof/Machine/Loft.lean ====
section
/-! DEFINITION. The Loft Arithmetic Unit (07_loft_coordinate_arithmetic.md): the staged transform, rounding,
station form and readout strings. -/

namespace Sys2Proof.Machine

/-- The quotient of a whole number by a positive one, rounded by a mode (R127). -/
def roundDiv (mode : Rounding) (n : Int) (d : Nat) : Int :=
  let q := n / (d : Int)
  let r := n % (d : Int)
  if r = 0 then q
  else match mode with
    | .rm => q
    | .rp => q + 1
    | .rz => if n < 0 then q + 1 else q
    | .rn => if 2 * r < d then q else if 2 * r > d then q + 1 else if n < 0 then q else q + 1

/-- A conversion's answer (R124). -/
structure LoftPoint where
  loftA : Int
  loftB : Int
  side : Side
  deriving DecidableEq, Repr

/-- Stage 1 on axis A, with the side (R125, R126). -/
def offsetA (v : ViewSettings) (sx : Coord) : Int × Side :=
  match v.view with
  | .plan | .sheer => ((sx.toNat : Int) - 512, .none)
  | .body =>
    if sx.toNat < v.centreline then ((v.centreline : Int) - sx.toNat, .aft)
    else ((sx.toNat : Int) - v.centreline, .fore)

/-- Stages 2 to 4: product, scaling and origin (R128). -/
def scaled (v : ViewSettings) (offset origin : Int) : Int :=
  origin + roundDiv v.rounding (offset * v.scale) 256

/-- Stage 5: the grid snap (R129). -/
def snapped (v : ViewSettings) (x : Int) : Int :=
  if v.grid = 0 then x else v.grid * roundDiv v.rounding x v.grid

/-- A conversion of a screen sample by given view settings (R124 to R129). -/
def convert (v : ViewSettings) (sx sy : Coord) : LoftPoint :=
  { loftA := snapped v (scaled v (offsetA v sx).1 v.originA)
    loftB := snapped v (scaled v ((sy.toNat : Int) - 512) v.originB)
    side := (offsetA v sx).2 }

/-- The station form's frame (R130). -/
def stationFrame (v : ViewSettings) (a : Int) : Int := (a - v.frameZero) / (v.spacing : Int)

/-- The station form's offset (R130). -/
def stationOffset (v : ViewSettings) (a : Int) : Int := a - v.frameZero - stationFrame v a * v.spacing

/-! ### Readout strings -/

/-- The glyph of a decimal digit, 0x30 to 0x39 (7.4). -/
def digitGlyph (d : Nat) : Glyph := BitVec.ofNat 7 (0x30 + d)

/-- The decimal digit of `v` at a power of ten. -/
def decimalDigit (v place : Nat) : Nat := v / 10 ^ place % 10

/-- The sign's glyph: '-' for a negative value, '+' otherwise (R135, R137). -/
def signGlyph (v : Int) : Glyph := if v < 0 then 0x2D#7 else 0x2B#7

/-- How many digit positions a LINEAR readout of `n` characters has (R135). -/
def digitPositions (p : ReadoutPart) (n : Nat) : Nat := min p.digits (n - 1)

/-- The entry at an index of a LINEAR readout (R135, R136). -/
def linearEntry (p : ReadoutPart) (v : Int) (n i : Nat) : Option Glyph :=
  let d := digitPositions p n
  if i = 0 then some (signGlyph v)
  else if d < i then none
  else if 10 ^ d ≤ v.natAbs then some p.overflowMark
  else if i < d ∧ v.natAbs < 10 ^ (d - i) then
    some (match p.fill with | .zero => digitGlyph 0 | .blank => 0x20#7)
  else some (digitGlyph (decimalDigit v.natAbs (d - i)))

/-- The entry at an index of a STATION readout that can be shown (R137). -/
def stationEntry (frame offset : Int) (i : Nat) : Option Glyph :=
  if i = 0 then some (signGlyph frame)
  else if i ≤ 3 then some (digitGlyph (decimalDigit frame.natAbs (3 - i)))
  else if i = 4 then some 0x2B#7
  else if i ≤ 8 then some (digitGlyph (decimalDigit offset.natAbs (8 - i)))
  else none

/-- Whether a STATION readout shows overflow marks (R131, R137). -/
def stationOverflows (v : ViewSettings) (p : ReadoutPart) (pt : LoftPoint) (n : Nat) : Bool :=
  p.axis == .b || pt.side != .none || n < 9 || 999 < (stationFrame v pt.loftA).natAbs

/-- The entry at an index of the readout of a loft point (R134 to R137). -/
def readoutEntry (v : ViewSettings) (p : ReadoutPart) (pt : LoftPoint) (n i : Nat) : Option Glyph :=
  match p.form with
  | .linear => linearEntry p (match p.axis with | .a => pt.loftA | .b => pt.loftB) n i
  | .station =>
    if stationOverflows v p pt n then some p.overflowMark
    else stationEntry (stationFrame v pt.loftA) (stationOffset v pt.loftA) i

/-- The value source of a readout (R133). -/
def valueSource (s : State) : Option LoftPoint :=
  match s.tracker.state with
  | .tracking | .lost => some (convert s.loft.active s.tracker.tx s.tracker.ty)
  | .off => s.gate.lastPick.map (fun p => { loftA := p.loftA, loftB := p.loftB, side := p.side })

/-- A readout string formed for a readout part, absent when the name has none (R132, R133, R134). -/
def formReadout (part : Option ReadoutPart) (addr : Addr) (n : Nat) (s : State) : ReadoutString :=
  { addr := addr, count := n,
    entries := (List.range n).map (fun i =>
      match part, valueSource s with
      | some p, some pt => readoutEntry s.loft.active p pt n i
      | _, _ => none) }

/-- The readout string from which a request with first index `j` is answered (R132). -/
def readoutFor (part : Option ReadoutPart) (addr : Addr) (n j : Nat) (s : State) : ReadoutString :=
  match s.loft.readout with
  | some r => if j ≠ 0 ∧ r.addr = addr ∧ r.count = n then r else formReadout part addr n s
  | none => formReadout part addr n s

/-- The view settings at frame end (R123). -/
def loftFrameEnd (s : State) : State :=
  s.setLoft { s.loft with active := presentValue s.loft.active s.loft.shadow, shadow := none }

/-- A VIEW or GRID setup, merged into the one shadow (R36, R122). -/
def loftMerge (candidate : ViewSettings) (s : State) : State :=
  s.setLoft { s.loft with shadow := shadowOf s.loft.active candidate }

end Sys2Proof.Machine
end

