-- ==== Sys2Proof/Machine/Flags.lean ====
section
/-! DEFINITION. The report record as words: kinds, flags and fields at the bit positions of
12_word_and_record_layouts.md, 12.3 (R200), and the code values of refusals, conditions and reasons. -/

namespace Sys2Proof.Machine

/-- The kind codes (12.3). -/
def ReportKind.code : ReportKind → BitVec 4
  | .pick => 1
  | .item => 2
  | .miss => 3
  | .track => 4
  | .trackEnd => 5
  | .trackLost => 6
  | .refusal => 7
  | .condition => 8
  | .mark => 9

/-- The refusal codes of w10 (12.3, R41). -/
inductive RefusalCode where
  | unassignedCommand | noCross | trackActive | noPosition | notTracking | noSuchSegment
  deriving DecidableEq, Repr

def RefusalCode.code : RefusalCode → Nat
  | .unassignedCommand => 1
  | .noCross => 2
  | .trackActive => 3
  | .noPosition => 4
  | .notTracking => 5
  | .noSuchSegment => 6

/-- The condition codes of w10 (12.3, R185). -/
inductive Condition where
  | tableFull | isProtected | ringInvalid | decodeLost | stackOverflow | stackUnderflow
  | displayStopped | displayResumed
  deriving DecidableEq, Repr

def Condition.code : Condition → Nat
  | .tableFull => 1
  | .isProtected => 2
  | .ringInvalid => 3
  | .decodeLost => 4
  | .stackOverflow => 5
  | .stackUnderflow => 6
  | .displayStopped => 7
  | .displayResumed => 8

/-- The TRACK-END reasons of w10 (12.3, R151). -/
inductive EndReason where
  | tip | command | stopped
  deriving DecidableEq, Repr

def EndReason.code : EndReason → Nat
  | .tip => 1
  | .command => 2
  | .stopped => 3

/-- The side codes (12.3). -/
def Side.code : Side → BitVec 2
  | .none => 0
  | .fore => 1
  | .aft => 2

/-- The flags in bits 23..14 of w1, GAP first (12.3). -/
def ReportFlags.bits (f : ReportFlags) : BitVec 10 :=
  BitVec.ofBool f.gap ++ BitVec.ofBool f.ambiguous ++ BitVec.ofBool f.crowded ++
  BitVec.ofBool f.edited ++ BitVec.ofBool f.stale ++ BitVec.ofBool f.locked ++
  BitVec.ofBool f.dwell ++ BitVec.ofBool f.stopped ++ BitVec.ofBool f.lost ++
  BitVec.ofBool f.reacquired

/-- A name and its item: name in 23..12, item present in 6, item number in 5..0 (w2 and w8). -/
def nameItemWord (name : Name) (item : Option Nat) : Word :=
  name ++ 0#5 ++ BitVec.ofBool item.isSome ++ BitVec.ofNat 6 (item.getD 0)

/-- Two path names in one word, the one at index `2k` in 23..12; positions beyond the depth are 0. -/
def pathWord (path : List Name) (k : Nat) : Word := path.getD (2 * k) 0 ++ path.getD (2 * k + 1) 0

/-- Word `k` of a report, 1 to 15 (12.3). -/
def Report.word (r : Report) : Nat → Word
  | 1 => r.flags.bits ++ r.side.code ++ BitVec.ofNat 4 r.path.length ++ r.frame.setWidth 8
  | 2 => nameItemWord (r.name.getD 0) r.item
  | 3 => BitVec.ofBool r.orderAddr.isSome ++ 0#5 ++ r.orderAddr.getD 0
  | 4 => BitVec.ofInt 24 (r.loft.elim 0 (·.1))
  | 5 => BitVec.ofInt 24 (r.loft.elim 0 (·.2))
  | 6 => 0#4 ++ r.sample.elim 0 (·.1) ++ r.sample.elim 0 (·.2)
  | 7 => 0#8 ++ BitVec.ofNat 8 r.winnerVotes ++ BitVec.ofNat 8 r.runnerVotes
  | 8 => r.runner.elim 0 (fun k => nameItemWord k.name k.item)
  | 9 => 0#8 ++ BitVec.ofNat 8 (r.itemSpan.elim 0 (·.1)) ++ BitVec.ofNat 8 (r.itemSpan.elim 0 (·.2))
  | 10 => 0#16 ++ BitVec.ofNat 8 (r.code.getD 0)
  | 11 => pathWord r.path 0
  | 12 => pathWord r.path 1
  | 13 => pathWord r.path 2
  | 14 => pathWord r.path 3
  | 15 => r.stamp
  | _ => 0

/-- The owner word: the sequence number in 15..8 and the kind in 3..0 (12.3, R192). -/
def ownerWord (sequence : Nat) (kind : ReportKind) : Word :=
  0#8 ++ BitVec.ofNat 8 sequence ++ 0#4 ++ kind.code

/-- The fields a CONDITION report gives besides its code (R185). -/
def conditionReport (c : Condition) (addr : Option Addr) (name : Option Name) (s : State) : Report :=
  { newReport .condition s with code := some c.code, orderAddr := addr, name := name }

/-- A REFUSAL report (R42). -/
def refusalReport (c : RefusalCode) (addr : Addr) (s : State) : Report :=
  { newReport .refusal s with code := some c.code, orderAddr := some addr }

/-- A MARK report (R41, R184). -/
def markReport (tag : BitVec 8) (addr : Addr) (s : State) : Report :=
  { newReport .mark s with code := some tag.toNat, orderAddr := some addr }

end Sys2Proof.Machine
end

