-- ==== Sys2Proof/Machine/Reports.lean ====
section
/-! DEFINITION. The Report Writer (11_reports_and_the_report_ring.md): the Pending Queue, the write-out, the
Slot Map, ATTENTION and the ring; and the set of own-cycle requests that it shares with the Pass Decoder and
the Tracking Unit (R163). -/

namespace Sys2Proof.Machine

/-! ### Slots -/

/-- Word `k` of a slot of a ring (12.3, R194). -/
def slotAddr (r : Ring) (slot k : Nat) : Addr := Addr.plus r.base (16 * slot + k)

/-- The slot whose owner word stands at an address, if there is one (R194). -/
def ownerSlot (r : Ring) (a : Addr) : Option Nat :=
  let d := (a - r.base).toNat
  if d % 16 = 0 ∧ d / 16 < r.slots then some (d / 16) else none

/-- A slot's state; a slot the map does not hold reads UNKNOWN. -/
def ReportWriter.slotState (w : ReportWriter) (i : Nat) : SlotState := w.slots.getD i .unknown

/-- Whether a Slot Map asks for ATTENTION (R195). -/
def anyWritten (slots : List SlotState) : Bool := slots.any (· == .written)

/-- A change of one slot's state, with ATTENTION following it (R194, R195). -/
def ReportWriter.setSlot (w : ReportWriter) (i : Nat) (st : SlotState) : ReportWriter :=
  { w with slots := w.slots.set i st, attention := anyWritten (w.slots.set i st) }

/-! ### Own-cycle requests (R163, R167) -/

/-- The write-out's outstanding request (R189 to R192). -/
def writeOutRequest (w : ReportWriter) : Option OwnCycle :=
  match w.ring, w.writeOut with
  | some r, some o =>
    match o.step with
    | .claim => some (.claim (slotAddr r o.slot 0))
    | .waiting => none
    | .filling k => some (.fill (slotAddr r o.slot k) (o.report.word k))
    | .publish => some (.owner (slotAddr r o.slot 0) (ownerWord w.sequence o.report.kind))
  | _, _ => none

/-- The write-back's outstanding request (R152). -/
def writeBackRequest (t : Tracker) : Option OwnCycle :=
  match t.writeBack with
  | some b => if b.granted then none else some (.writeBack b.addr b.word)
  | none => none

/-- The outstanding own requests, in the order in which they are granted (R163, R167). -/
def ownRequests (s : State) : List OwnCycle :=
  s.pass.consumption.map (fun c => .consumption c.addr (consumptionWord c.extra)) ++
    (writeBackRequest s.tracker).toList ++ (writeOutRequest s.reports).toList

/-- After a withdrawal: the fair-share count returns to 0 when the set has become empty (R166). -/
def afterWithdrawal (s : State) : State :=
  if ownRequests s = [] then s.setPassage { s.passage with fairShare := 0 } else s

/-! ### The write-out (R189 to R193) -/

/-- CLAIM at a slot of the active ring with a record (R190): a slot not known to be held is read, any other
is waited on. -/
def enterClaim (report : Report) (slot : Nat) (s : State) : State :=
  let step := match s.reports.slotState slot with
    | .occupied | .written => WriteStep.waiting
    | .unknown | .free | .filling => WriteStep.claim
  s.setReports { s.reports with writeOut := some { report := report, slot := slot, step := step } }

/-- The idle write-out takes the oldest queued record when a ring is active (R189). -/
def takeNext (s : State) : State :=
  match s.reports.writeOut, s.reports.ring, s.reports.queue with
  | none, some _, r :: q =>
    enterClaim r s.reports.pointer (s.setReports { s.reports with queue := q })
  | _, _, _ => s

/-- The write-out in WAITING with its record and slot (R190, R193). -/
def enterWaiting (o : WriteOut) (s : State) : State :=
  s.setReports { s.reports with writeOut := some { o with step := .waiting } }

/-! ### The Pending Queue (R186 to R188) -/

/-- Whether a TRACK is queued. -/
def trackQueued (q : List Report) : Bool := q.any (·.kind == .track)

/-- The record that takes a queued TRACK's place (R187). -/
def mergeTrack (old new : Report) (gap : Bool) : Report :=
  { new with flags := { new.flags with
      gap := new.flags.gap || old.flags.gap || gap
      reacquired := new.flags.reacquired || old.flags.reacquired } }

/-- The queue once a record has been appended, taking GAP from the gap flag (R186). -/
def ReportWriter.append (w : ReportWriter) (r : Report) : ReportWriter :=
  { w with queue := w.queue ++ [{ r with flags := { r.flags with gap := r.flags.gap || w.gap } }],
           gap := false }

/-- The queue once a request has been taken (R186 to R188). -/
def ReportWriter.enqueue (w : ReportWriter) (r : Report) : ReportWriter :=
  if r.kind = .track then
    if trackQueued w.queue then
      { w with queue := w.queue.map (fun q => if q.kind = .track then mergeTrack q r w.gap else q),
               gap := false }
    else if w.queue.length < 4 then w.append r
    else w
  else if w.queue.length < 4 then w.append r
  else if trackQueued w.queue then
    ReportWriter.append { w with queue := w.queue.filter (fun q => q.kind != .track) } r
  else { w with gap := true }

/-- A report request kept with those of the present moment (R199, assumption log 22). -/
def handReport (r : Report) (s : State) : State :=
  s.setMoment { s.moment with reports := s.moment.reports ++ [r] }

/-- The requests that come after the last one that holds, or all of them when none does. -/
def requestsAfter (p : Report → Bool) : List Report → List Report
  | [] => []
  | r :: l => if l.any p then requestsAfter p l else if p r then l else r :: l

/-- The report requests up to the one in the write-out taken for good, as its claim read is granted: no INIT comes
before them (R199, assumption log 22). -/
def settleReports (s : State) : State :=
  match s.reports.writeOut with
  | some o =>
    s.setMoment { s.moment with
      reports := requestsAfter (fun r => { r with flags := o.report.flags } == o.report) s.moment.reports }
  | none => s

/-- A report request (R184, R186, R189). -/
def requestReport (r : Report) (s : State) : State :=
  takeNext (handReport r (s.setReports (s.reports.enqueue r)))

/-! ### The ring (R196, R197) -/

/-- The application of a ring (R197). -/
def applyRing (r : Ring) (s : State) : State :=
  let s := s.setReports { s.reports with
    ring := some r, shadow := none, deferral := false, slots := List.replicate r.slots .unknown,
    pointer := 0, attention := false }
  match s.reports.writeOut with
  | none => takeNext s
  | some o =>
    match o.step with
    | .claim => enterClaim o.report 0 (afterWithdrawal (enterWaiting o s))
    | .waiting => enterClaim o.report 0 s
    | .filling _ | .publish => s

/-- When the write-out leaves FILLING or PUBLISH: the deferred application (R196). -/
def afterFill (s : State) : State :=
  if s.reports.deferral then
    match s.reports.shadow with
    | some r => applyRing r s
    | none => s.setReports { s.reports with deferral := false }
  else s

/-- The Report Writer's frame end (R196). -/
def reportsFrameEnd (s : State) : State :=
  match s.reports.shadow with
  | none => s
  | some r =>
    match s.reports.writeOut with
    | some ⟨_, _, .filling _⟩ | some ⟨_, _, .publish⟩ =>
      s.setReports { s.reports with deferral := true }
    | _ => applyRing r s

/-- A valid RING handed over: the shadow by R36, and the deferral flag cleared when it is emptied (R196). -/
def ringMerge (candidate : Ring) (s : State) : State :=
  let shadow := if s.reports.ring = some candidate then none else some candidate
  s.setReports { s.reports with shadow := shadow, deferral := s.reports.deferral && shadow.isSome }

/-! ### Notices and completions -/

/-- A P-write notice at the Report Writer (R190, R191, R193, R194). -/
def reportsNotice (a : Addr) (data : Word) (s : State) : State :=
  match s.reports.ring.bind (fun r => ownerSlot r a) with
  | none => s
  | some i =>
    if s.reports.slotState i = .filling then
      if data = 0 then s
      else
        let s := s.setReports (s.reports.setSlot i .occupied)
        match s.reports.writeOut with
        | some o => if o.slot = i then afterFill (afterWithdrawal (enterWaiting o s)) else s
        | none => s
    else
      let s := s.setReports (s.reports.setSlot i (if data = 0 then .free else .occupied))
      match s.reports.writeOut with
      | some o =>
        if o.slot = i ∧ o.step = .waiting ∧ data = 0 then enterClaim o.report i s
        else if o.slot = i ∧ o.step = .claim ∧ data ≠ 0 then afterWithdrawal (enterWaiting o s)
        else s
      | none => s

/-- The word of a claim read handed to the Report Writer (R190); a word for which no claim stands is
discarded (R197, R199). -/
def claimAnswered (a : Addr) (word : Word) (s : State) : State :=
  match s.reports.ring, s.reports.writeOut with
  | some r, some o =>
    if o.step = .claim ∧ slotAddr r o.slot 0 = a then
      if word = 0 then
        s.setReports { s.reports.setSlot o.slot .filling with writeOut := some { o with step := .filling 1 } }
      else enterWaiting o (s.setReports (s.reports.setSlot o.slot .occupied))
    else s
  | _, _ => s

/-- The Report Writer is told that a fill write is done (R192). -/
def fillAnswered (s : State) : State :=
  match s.reports.writeOut with
  | some o =>
    match o.step with
    | .filling k =>
      s.setReports { s.reports with
        writeOut := some { o with step := if k < 15 then .filling (k + 1) else .publish } }
    | _ => s
  | none => s

/-- The sequence number after a publication (R192). -/
def nextSequence (n : Nat) : Nat := if n = 255 then 1 else n + 1

/-- The write pointer after a publication (R192). -/
def nextPointer (p slots : Nat) : Nat := if p + 1 < slots then p + 1 else 0

/-- The Report Writer is told that the owner-word write is done: the publication (R192, R196). -/
def ownerAnswered (s : State) : State :=
  match s.reports.ring, s.reports.writeOut with
  | some r, some o =>
    if o.step = .publish then
      afterFill (takeNext (s.setReports { s.reports.setSlot o.slot .written with
        sequence := nextSequence s.reports.sequence
        pointer := nextPointer s.reports.pointer r.slots
        writeOut := none }))
    else s
  | _, _ => s

end Sys2Proof.Machine
end

