-- ==== Sys2Proof/Machine/Segments.lean ====
section
/-! DEFINITION. The Segment Table (03_the_segment_table.md): reading, creation, eviction, shadows, drops. -/

namespace Sys2Proof.Machine

/-- The set every reader receives for a name the table does not hold (R51). -/
def Attributes.default : Attributes :=
  { classPart := .draw, sensitivity := .pick, priority := 0, highlight := .none, boost := 1 }

/-- The menu part's defaults (R50). -/
def ClassPart.defaultMenu : ClassPart := .menu 0x7C#7 .tip

/-- The readout part's defaults (R50). -/
def ReadoutPart.default : ReadoutPart :=
  { axis := .a, form := .linear, digits := 6, fill := .zero, overflowMark := 0x2A#7 }

/-- The class of a SEGMENT order's argument 1 (12.2). -/
inductive SegmentClass where
  | draw | menu | readout
  deriving DecidableEq, Repr

/-- The class of an attribute set. -/
def ClassPart.toClass : ClassPart → SegmentClass
  | .draw => .draw
  | .menu _ _ => .menu
  | .readout _ => .readout

/-- Whether a set's class is MENU. -/
def ClassPart.isMenu (c : ClassPart) : Bool := c.toClass == .menu

/-- Whether a set's class is READOUT. -/
def ClassPart.isReadout (c : ClassPart) : Bool := c.toClass == .readout

/-- The readout part of a set, if it has one (R134). -/
def ClassPart.readoutPart : ClassPart → Option ReadoutPart
  | .readout p => some p
  | _ => none

/-- The separator of a set's menu part (R94). -/
def ClassPart.separator : ClassPart → Glyph
  | .menu c _ => c
  | _ => 0x7C#7

/-- Whether a set's menu part has trigger DWELL (R113). -/
def ClassPart.dwells : ClassPart → Bool
  | .menu _ .dwell => true
  | _ => false

/-- The entry of a name (R49). -/
def SegmentTable.find (t : SegmentTable) (n : Name) : Option Segment :=
  t.entries.find? (fun e => e.name == n)

/-- What the table answers for a name (R51). -/
def attributesOf (s : State) (n : Name) : Attributes :=
  if n = 0 then .default else (s.segments.find n).elim .default (·.active)

/-- Every entry of a name changed by `f`. -/
def SegmentTable.update (t : SegmentTable) (n : Name) (f : Segment → Segment) : SegmentTable :=
  { t with entries := t.entries.map (fun e => if e.name = n then f e else e) }

/-- An entry put in among entries of rising name. -/
def insertSegment (e : Segment) : List Segment → List Segment
  | [] => [e]
  | x :: l => if e.name.toNat < x.name.toNat then e :: x :: l else x :: insertSegment e l

/-! ### Setups -/

/-- The five common fields argument 1 of a SEGMENT order carries, clamped (R32, R52). -/
structure CommonFields where
  cls : SegmentClass
  sensitivity : Sensitivity
  priority : Nat
  highlight : Highlight
  boost : Nat
  deriving DecidableEq, Repr

/-- The part a class starts with, its menu fields from argument 2 when present (R50, R52, R56). -/
def freshPart (cls : SegmentClass) (menu : Option (Glyph × Trigger)) : ClassPart :=
  match cls with
  | .draw => .draw
  | .readout => .readout .default
  | .menu => menu.elim .defaultMenu (fun m => .menu m.1 m.2)

/-- The part of a candidate set (R56, steps 2 to 4). -/
def mergedPart (present : ClassPart) (cls : SegmentClass) (menu : Option (Glyph × Trigger)) : ClassPart :=
  if cls = present.toClass then
    match cls, menu with
    | .menu, some m => .menu m.1 m.2
    | _, _ => present
  else freshPart cls menu

/-- The candidate set a SEGMENT order forms from a present value (R56). -/
def segmentCandidate (present : Attributes) (common : Option CommonFields)
    (menu : Option (Glyph × Trigger)) : Attributes :=
  match common with
  | none => { present with classPart := mergedPart present.classPart present.classPart.toClass menu }
  | some c =>
    { classPart := mergedPart present.classPart c.cls menu, sensitivity := c.sensitivity,
      priority := c.priority, highlight := c.highlight, boost := c.boost }

/-- A new entry (R52): the default set, the fields carried, and the class's part. -/
def newSegment (n : Name) (common : Option CommonFields) (menu : Option (Glyph × Trigger))
    (frame : FrameNo) : Segment :=
  { name := n, active := segmentCandidate .default common menu, shadow := none, lastSeen := frame,
    dropPending := false }

/-- An entry's age (R53). -/
def Segment.age (e : Segment) (frame : FrameNo) : Nat := (frame - e.lastSeen).toNat

/-- Whether an entry may be evicted (R54). -/
def evictable (s : State) (e : Segment) : Bool :=
  2 ≤ e.age s.follower.frameNo &&
  !(s.gate.tally.any (fun t => t.key.name == e.name)) &&
  s.tracker.active.crossName != e.name &&
  s.echo.picked != some e.name

/-- Of two entries, the one to be evicted first: the greater age, then the lower name (R53). -/
def evictedBefore (frame : FrameNo) (e f : Segment) : Bool :=
  f.age frame < e.age frame || (e.age frame == f.age frame && e.name.toNat < f.name.toNat)

/-- The entry to evict, if any is eligible (R53, R54). -/
def victim (s : State) : Option Segment :=
  (s.segments.entries.filter (evictable s)).foldl
    (fun best e =>
      match best with
      | none => some e
      | some b => if evictedBefore s.follower.frameNo e b then some e else some b) none

/-- A creation, with eviction from a full table, or its refusal with at most one TABLE-FULL a frame
(R52, R53, R55). That the Echo Unit's answer to the eviction question (R54) does not settle its requests of the moment,
so that an INIT of the microsecond may still come before them, is the model's choice, assumption log 22. -/
def createSegment (e : Segment) (orderAddr : Addr) (s : State) : State :=
  let t := s.segments
  if t.entries.length < 128 then s.setSegments { t with entries := insertSegment e t.entries }
  else
    match victim s with
    | some v =>
      let rest := t.entries.filter (fun x => x.name != v.name)
      s.setSegments { t with entries := insertSegment e rest }
    | none =>
      if t.fullReported then s
      else
        (requestReport (conditionReport .tableFull (some orderAddr) (some e.name) s) s).setSegments
          { t with fullReported := true }

/-- The shadow a SEGMENT order leaves in a held entry (R56, R36). -/
def segmentShadow (common : Option CommonFields) (menu : Option (Glyph × Trigger)) (e : Segment) :
    Option Attributes :=
  shadowOf e.active (segmentCandidate (presentValue e.active e.shadow) common menu)

/-- A SEGMENT order with a nonzero name (R37, R52, R56). -/
def segmentSetup (n : Name) (common : Option CommonFields) (menu : Option (Glyph × Trigger))
    (orderAddr : Addr) (s : State) : State :=
  match s.segments.find n with
  | none => createSegment (newSegment n common menu s.follower.frameNo) orderAddr s
  | some _ =>
    s.setSegments (s.segments.update n (fun e => { e with shadow := segmentShadow common menu e }))

/-- The candidate set a READOUT order forms, when the present value's class is READOUT (R57). -/
def readoutShadow (part : Option ReadoutPart) (e : Segment) : Option Attributes :=
  let present := presentValue e.active e.shadow
  match present.classPart with
  | .readout p => shadowOf e.active { present with classPart := .readout (part.getD p) }
  | _ => e.shadow

/-- A READOUT order with a nonzero name (R57). -/
def readoutSetup (n : Name) (part : Option ReadoutPart) (s : State) : State :=
  s.setSegments (s.segments.update n (fun e => { e with shadow := readoutShadow part e }))

/-- A NAME hand-off with a nonzero payload (R58). -/
def markSeen (n : Name) (s : State) : State :=
  s.setSegments (s.segments.update n (fun e => { e with lastSeen := s.follower.frameNo }))

/-- DROP-SEGMENT taken (R60). -/
def markDrop (n : Name) (s : State) : State :=
  s.setSegments (s.segments.update n (fun e => { e with dropPending := true }))

/-- CLEAR-TABLE taken (R60). -/
def markAllDropped (s : State) : State :=
  s.setSegments { s.segments with
    entries := s.segments.entries.map (fun e => { e with dropPending := true }) }

/-! ### Frame end -/

/-- The names a frame end removes by drop (R60, R61). -/
def droppedNames (t : SegmentTable) : List Name := (t.entries.filter (·.dropPending)).map (·.name)

/-- An entry with its pending shadow made active (R59). -/
def Segment.applyShadow (e : Segment) : Segment :=
  { e with active := presentValue e.active e.shadow, shadow := none }

/-- The table at frame end: drops, shadows, the reported flag (R59, R60, R61). -/
def segmentsFrameEnd (s : State) : State :=
  s.setSegments
    { entries := (s.segments.entries.filter (fun e => !e.dropPending)).map Segment.applyShadow
      fullReported := false }

end Sys2Proof.Machine
end

