-- ==== Sys2Proof/Machine/Gate.lean ====
section
/-! DEFINITION. The Gate Unit (06_pick_gates_dwell_and_hover.md): the Pick Gate and its Tally, decisions, the
Dwell Record and the Hover Record. -/

namespace Sys2Proof.Machine

/-- The latest fields a winner result gives, its sample converted by the view settings active when it is taken
(R104). -/
def snapshotOf (w : Winner) (s : State) : Snapshot :=
  let p := convert s.loft.active w.sampleX w.sampleY
  { orderAddr := w.orderAddr, path := w.path, edited := w.edited, locked := w.locked,
    sampleX := w.sampleX, sampleY := w.sampleY, loftA := p.loftA, loftB := p.loftB, side := p.side,
    item := w.item, stale := false }

/-! ### Votes -/

/-- The Tally after one more vote for a key it holds (R104). -/
def TallyEntry.vote (e : TallyEntry) (w : Winner) (snap : Snapshot) : TallyEntry :=
  { e with votes := e.votes + 1, topPriority := max e.topPriority w.priority, lastVote := w.time,
           latest := snap }

/-- The gate once a vote has been cast or, for a ninth key, discarded (R104, R105). -/
def castVote (g : OpenGate) (w : Winner) (s : State) : State :=
  let snap := snapshotOf w s
  let u := s.gate
  if u.tally.any (fun e => e.key == w.key) then
    s.setGate { u with tally := u.tally.map (fun e => if e.key = w.key then e.vote w snap else e) }
  else if u.tally.length < 8 then
    let e : TallyEntry :=
      { key := w.key, votes := 1, topPriority := w.priority, lastVote := w.time, latest := snap }
    s.setGate { u with tally := u.tally ++ [e] }
  else s.setGate { u with gate := some { g with crowded := true } }

/-- Whether a winner result is a DWELL-item winner (R113). -/
def isDwellWinner (w : Winner) (s : State) : Bool :=
  w.key.item.isSome && w.isMenu && (attributesOf s w.key.name).classPart.dwells

/-- A DWELL-item winner in the Dwell Record (R113). -/
def dwellTake (w : Winner) (s : State) : State :=
  if isDwellWinner w s then
    let snap := snapshotOf w s
    let d := s.gate.dwell
    let again := d.key = some w.key
    s.setGate { s.gate with dwell := { d with
      candidate := some (w.key, snap)
      won := d.won || again
      snapshot := if again then some snap else d.snapshot } }
  else s

/-- A winner result in the Hover Record (R116). -/
def hoverTake (w : Winner) (s : State) : State :=
  match w.item with
  | some i =>
    if s.gate.active.hover && w.isMenu then
      s.setGate { s.gate with hover := some { key := w.key, item := i, won := true } }
    else s
  | none => s

/-- A winner result taken by the Gate Unit, in the state in which it takes it (R104, R113, R116). -/
def gateWinner (w : Winner) (s : State) : State :=
  let s := match s.gate.gate with
    | some g => if earlier w.time g.openTime then s else castVote g w s
    | none => dwellTake w s
  hoverTake w s

/-! ### Decisions -/

/-- Whether one Tally entry stands before another in a decision (R109). -/
def outranks (openTime : Time) (a b : TallyEntry) : Bool :=
  b.votes < a.votes ||
  (a.votes == b.votes && (b.topPriority < a.topPriority ||
    (a.topPriority == b.topPriority &&
      elapsed b.lastVote openTime < elapsed a.lastVote openTime)))

/-- The first entry of a Tally in the order of R109. -/
def firstRanked (openTime : Time) (l : List TallyEntry) : Option TallyEntry :=
  l.foldl (fun best e =>
    match best with
    | none => some e
    | some b => if outranks openTime e b then some e else some b) none

/-- The winner of a Tally (R109). -/
def tallyWinner (openTime : Time) (l : List TallyEntry) : Option TallyEntry := firstRanked openTime l

/-- The runner-up of a Tally beside its winner (R109). -/
def tallyRunner (openTime : Time) (l : List TallyEntry) (w : TallyEntry) : Option TallyEntry :=
  firstRanked openTime (l.filter (fun e => e.key != w.key))

/-- Whether a runner-up makes the decision AMBIGUOUS (R109). -/
def isAmbiguous (w : TallyEntry) (runner : Option TallyEntry) : Bool :=
  runner.any (fun r => w.votes ≤ 2 * r.votes)

/-- The fields a PICK or ITEM report takes from a snapshot (R110, R115). -/
def pickReport (key : Key) (snap : Snapshot) (s : State) : Report :=
  let stale := snap.stale && key.item.isSome
  { newReport (if key.item.isSome then .item else .pick) s with
    flags := { edited := snap.edited, locked := snap.locked, stale := stale }
    side := snap.side, name := some key.name, item := key.item, orderAddr := some snap.orderAddr,
    path := snap.path, loft := some (snap.loftA, snap.loftB),
    sample := some (snap.sampleX, snap.sampleY),
    itemSpan := snap.item.map (fun i => (i.start, if stale then 0 else i.length)) }

/-- The last-pick record a snapshot gives (R111). -/
def Snapshot.toLastPick (snap : Snapshot) : LastPick :=
  { sampleX := snap.sampleX, sampleY := snap.sampleY, loftA := snap.loftA, loftB := snap.loftB,
    side := snap.side }

/-- What follows the request of a PICK or ITEM: the last-pick record and the echo request (R111). -/
def afterPick (key : Key) (snap : Snapshot) (s : State) : State :=
  let s := s.setGate { s.gate with lastPick := some snap.toLastPick }
  if snap.locked then s
  else
    match key.item, snap.item with
    | none, _ => echoPick key.name s
    | some _, some d => if snap.stale then s else echoItem d s
    | some _, none => s

/-- The report of a decision with a winner (R109, R110). -/
def decisionReport (g : OpenGate) (stopped : Bool) (w : TallyEntry) (runner : Option TallyEntry)
    (s : State) : Report :=
  let r := pickReport w.key w.latest s
  { r with
    flags := { r.flags with
      ambiguous := isAmbiguous w runner, crowded := g.crowded, stopped := stopped }
    winnerVotes := w.votes
    runnerVotes := runner.elim 0 (·.votes)
    runner := runner.map (·.key) }

/-- A MISS report (R110). -/
def missReport (stopped : Bool) (s : State) : Report :=
  { newReport .miss s with flags := { stopped := stopped } }

/-- The decision of a closing gate (R109 to R111). -/
def decideGate (g : OpenGate) (stopped : Bool) (s : State) : State :=
  match tallyWinner g.openTime s.gate.tally with
  | none => requestReport (missReport stopped s) s
  | some w =>
    let runner := tallyRunner g.openTime s.gate.tally w
    afterPick w.key w.latest (requestReport (decisionReport g stopped w runner s) s)

/-- The gate CLOSED with its Tally emptied (R107). -/
def closeGate (s : State) : State := s.setGate { s.gate with gate := none, tally := [] }

/-- A close with a decision; nothing when the gate is CLOSED (R107). -/
def closeDeciding (stopped : Bool) (s : State) : State :=
  match s.gate.gate with
  | some g => closeGate (decideGate g stopped s)
  | none => s

/-- The opening of the gate by a tip-down that starts no tracking (R103). -/
def openGate (s : State) : State :=
  match s.gate.gate with
  | some _ => s
  | none =>
    echoGateOpened (s.setGate { s.gate with
      gate := some { openTime := s.time, frameCount := 0, crowded := false,
                     comparedLength := s.gate.active.length }
      tally := [], dwell := .empty })

/-! ### Frame end (R118) -/

/-- The gate frame count rises (R108). -/
def raiseGateCount (s : State) : State :=
  match s.gate.gate with
  | some g =>
    s.setGate { s.gate with gate := some { g with
      frameCount := g.frameCount + 1, comparedLength := s.gate.active.length } }
  | none => s

/-- The frame count has reached the L it was compared with: the gate closes by length (R108). -/
def closeByLength (s : State) : State :=
  match s.gate.gate with
  | some g => if g.comparedLength ≤ g.frameCount then closeDeciding false s else s
  | none => s

/-- The Dwell Record counts, moves or empties at frame end (R114). -/
def DwellRecord.roll (d : DwellRecord) (limit : Nat) : DwellRecord :=
  if d.won then
    { d with count := if d.spent then d.count else d.count + 1, won := false, candidate := none,
             comparedDwell := limit }
  else
    match d.candidate with
    | some (k, snap) =>
      { key := some k, count := 1, spent := false, won := false, snapshot := some snap,
        candidate := none, comparedDwell := limit }
    | none => .empty

/-- The dwell count has reached the D it was compared with: the dwell report (R115). -/
def dwellReport (s : State) : State :=
  match s.gate.gate, s.gate.dwell.key, s.gate.dwell.snapshot with
  | none, some key, some snap =>
    let d := s.gate.dwell
    if !d.spent ∧ d.comparedDwell ≤ d.count then
      let r := pickReport key snap s
      let s := requestReport
        { r with flags := { r.flags with dwell := true }, winnerVotes := d.count } s
      afterPick key snap (s.setGate { s.gate with dwell := { d with spent := true } })
    else s
  | _, _, _ => s

/-- The Dwell Record's frame end; it is left empty while the gate is OPEN (R114). -/
def dwellFrameEnd (s : State) : State :=
  match s.gate.gate with
  | none =>
    dwellReport (s.setGate { s.gate with dwell := s.gate.dwell.roll s.gate.active.dwell })
  | some _ => s

/-- The Hover Record's frame end (R117). -/
def hoverFrameEnd (s : State) : State :=
  s.setGate { s.gate with
    hover := s.gate.hover.bind (fun h => if h.won then some { h with won := false } else none) }

/-- The gate settings' shadow applied (R101, R118 step 4). -/
def applyGateShadow (s : State) : State :=
  let a := presentValue s.gate.active s.gate.shadow
  s.setGate { s.gate with
    active := a, shadow := none, hover := if a.hover then s.gate.hover else none }

/-- The Gate Unit's frame end, in its own order (R118). -/
def gateFrameEnd (s : State) : State :=
  applyGateShadow (hoverFrameEnd (dwellFrameEnd (closeByLength (raiseGateCount s))))

/-! ### Notices and setups -/

/-- The stale mark of an invalidated text (R106, R114). -/
def Snapshot.markStale (snap : Snapshot) (text : Addr) : Snapshot :=
  if snap.item.any (fun i => i.textAddr == text) then { snap with stale := true } else snap

/-- An invalidation notice from the Menu Map (R106, R114, R116). -/
def gateInvalidated (text : Addr) (s : State) : State :=
  let u := s.gate
  s.setGate { u with
    tally := u.tally.map (fun e => { e with latest := e.latest.markStale text })
    dwell := { u.dwell with
      snapshot := u.dwell.snapshot.map (·.markStale text)
      candidate := u.dwell.candidate.map (fun c => (c.1, c.2.markStale text)) }
    hover := u.hover.filter (fun h => h.item.textAddr != text) }

/-- A GATE setup (R36, R101). -/
def gateMerge (candidate : GateSettings) (s : State) : State :=
  s.setGate { s.gate with shadow := shadowOf s.gate.active candidate }

end Sys2Proof.Machine
end

