-- ==== Sys2Proof/Machine/MenuMap.lean ====
section
/-! DEFINITION. The Menu Map (05_strike_attribution_and_the_menu_map.md, 5.7): building, scanning,
invalidation and lookup. -/

namespace Sys2Proof.Machine

/-- An entry at the fetch of its TEXT order word (R94). -/
def MenuEntry.start (addr : Addr) (name : Name) (count : Nat) (separator : Glyph) : MenuEntry :=
  { addr := addr, name := name, count := count, separator := separator, scanned := 0,
    items := [{ start := 0, length := 0 }], valid := true }

/-- The Map once an entry has been built or rebuilt at its newest end (R94). -/
def menuStart (e : MenuEntry) (m : List MenuEntry) : List MenuEntry :=
  let others := m.filter (fun x => x.addr != e.addr)
  (if others.length < 16 then others else others.drop 1) ++ [e]

/-- The item list with its open item one character longer (R95). -/
def lengthenLast : List Item → List Item
  | [] => []
  | [i] => [{ i with length := i.length + 1 }]
  | i :: l => i :: lengthenLast l

/-- One character scanned (R95, R96); a character at or beyond the count is padding. -/
def scanChar (e : MenuEntry) (c : BitVec 8) : MenuEntry :=
  if e.count ≤ e.scanned then e
  else if glyphOf c = e.separator ∧ e.items.length ≤ 63 then
    { e with items := e.items ++ [{ start := e.scanned + 1, length := 0 }], scanned := e.scanned + 1 }
  else { e with items := lengthenLast e.items, scanned := e.scanned + 1 }

/-- An operand word scanned into its entry, when it continues the build (R95). -/
def scanWord (e : MenuEntry) (first : Nat) (w : Word) : MenuEntry :=
  if e.scanned = first then scanChar (scanChar (scanChar e (charAt w 0)) (charAt w 1)) (charAt w 2)
  else e

/-- An operand hand-off at the Map (R95). -/
def menuOperand (addr : Addr) (first : Nat) (w : Word) (m : List MenuEntry) : List MenuEntry :=
  m.map (fun e => if e.addr = addr then scanWord e first w else e)

/-- Whether a written address lies within an entry's text (R97). -/
def MenuEntry.covers (e : MenuEntry) (a : Addr) : Bool := inSpan a e.addr (1 + (e.count + 2) / 3)

/-- The texts whose valid flag a P-write clears: the invalidation notices (R97). -/
def invalidatedTexts (a : Addr) (m : List MenuEntry) : List Addr :=
  (m.filter (fun e => e.covers a && e.valid)).map (·.addr)

/-- A P-write notice at the Map (R97). -/
def menuInvalidate (a : Addr) (m : List MenuEntry) : List MenuEntry :=
  m.map (fun e => if e.covers a then { e with valid := false } else e)

/-- The first item of a list that holds a character index, with its number (R89). -/
def itemHolding (index : Nat) : Nat → List Item → Option (Nat × Item)
  | _, [] => none
  | k, i :: l =>
    if i.start ≤ index ∧ index < i.start + i.length then some (k, i) else itemHolding index (k + 1) l

/-- The item a menu text of this address, name and count yields for a character index (R89). -/
def menuLookup (m : List MenuEntry) (addr : Addr) (name : Name) (count index : Nat) :
    Option (Nat × Item) :=
  (m.find? (fun e => e.addr == addr)).bind (fun e =>
    if e.valid ∧ e.name = name ∧ e.count = count ∧ index < e.scanned then itemHolding index 0 e.items
    else none)

end Sys2Proof.Machine
end

