-- ==== Sys2Proof/Machine/Tracking.lean ====
section
/-! DEFINITION. The Tracking Unit (08_tracking.md): the cross order record, runs, the filter, frame end and the
write-back. -/

namespace Sys2Proof.Machine

/-- The X of a MOVE word (12.1). -/
def moveX (w : Word) : Coord := bitsAt w 10 10

/-- The Y of a MOVE word (12.1). -/
def moveY (w : Word) : Coord := bitsAt w 0 10

/-- Whether a run goes on. -/
def Tracker.runs (t : Tracker) : Bool := t.state != .off

/-! ### The cross order record -/

/-- The record once a MOVE has been handed over (R142). -/
def crossAfterMove (t : Tracker) (a : Addr) (w : Word) : CrossRecord :=
  let fresh : CrossRecord := { addr := a, word := w, fetchedThisFrame := true, substituted := t.runs }
  match t.cross with
  | none => fresh
  | some c =>
    if !c.fetchedThisFrame then fresh
    else if c.addr = a then { c with word := w, substituted := t.runs }
    else c

/-- The MOVE hand-off (R142). -/
def trackMove (a : Addr) (w : Word) (name : Name) (s : State) : State :=
  if s.tracker.active.crossName ≠ 0 ∧ name = s.tracker.active.crossName then
    s.setTracker { s.tracker with cross := some (crossAfterMove s.tracker a w) }
  else s

/-- A P-write notice at the Tracking Unit (R143, R153). -/
def trackNotice (a : Addr) (s : State) : State :=
  let s := s.setTracker { s.tracker with
    cross := s.tracker.cross.map (fun c => if c.addr = a then { c with substituted := false } else c) }
  match s.tracker.writeBack with
  | some b =>
    if b.addr = a then afterWithdrawal (s.setTracker { s.tracker with writeBack := none }) else s
  | none => s

/-! ### Reports (R154) -/

/-- The fields common to the three tracking reports, the loft values by given view settings (R154, R150). -/
def trackReport (kind : ReportKind) (view : ViewSettings) (s : State) : Report :=
  let t := s.tracker
  let p := convert view t.tx t.ty
  { newReport kind s with
    name := some t.active.crossName, side := p.side, loft := some (p.loftA, p.loftB),
    sample := some (t.tx, t.ty), orderAddr := t.cross.map (·.addr) }

/-- A TRACK request: the report, and the last-reported position (R148, R150). -/
def requestTrack (reacquired : Bool) (view : ViewSettings) (s : State) : State :=
  let r := trackReport .track view s
  let s := requestReport { r with flags := { r.flags with reacquired := reacquired } } s
  s.setTracker { s.tracker with lastReported := some (s.tracker.tx, s.tracker.ty) }

/-! ### Starting a run -/

/-- A cross sighting (R144). -/
def trackSighting (s : State) : State :=
  if s.tracker.runs then s else s.setTracker { s.tracker with sightedThisFrame := true }

/-- A position clamped into a box (R145, R146, R150). -/
def intoBox (b : TrackSettings) (x y : Coord) : Coord × Coord :=
  (clampCoord b.xmin b.xmax x.toNat, clampCoord b.ymin b.ymax y.toNat)

/-- The start position of a tip-down that starts tracking; `none` when it starts nothing (R145). -/
def tipStart (t : Tracker) : Option (Coord × Coord) :=
  match t.cross with
  | some c =>
    if t.state = .off ∧ t.active.crossName ≠ 0 ∧ (t.sightedThisFrame || t.sightedLastFrame) then
      some (intoBox t.active (moveX c.word) (moveY c.word))
    else none
  | none => none

/-- A run begins at a start position (R147). -/
def beginRun (p : Coord × Coord) (s : State) : State :=
  s.setTracker { s.tracker with
    state := .tracking, tx := p.1, ty := p.2, lossCount := 0, crossStruck := false,
    lastReported := none, sightedThisFrame := false, sightedLastFrame := false,
    cross := s.tracker.cross.map (fun c => { c with substituted := false }) }

/-! ### The filter -/

/-- One coordinate moved toward a strike and clamped (R148). -/
def filtered (mode : Rounding) (k : Nat) (lo hi from_ : Coord) (d : Int) : Coord :=
  clampCoord lo hi ((from_.toNat : Int) + roundDiv mode d (2 ^ k))

/-- The position after a cross strike (R148). -/
def filterStep (mode : Rounding) (b : TrackSettings) (tx ty bx by_ : Coord) : Coord × Coord :=
  let dx := (bx.toNat : Int) - tx.toNat
  let dy := (by_.toNat : Int) - ty.toNat
  if dx.natAbs > dy.natAbs then (filtered mode b.gainShift b.xmin b.xmax tx dx, ty)
  else (tx, filtered mode b.gainShift b.ymin b.ymax ty dy)

/-- A cross result (R148). -/
def trackCross (bx by_ : Coord) (s : State) : State :=
  let t := s.tracker
  if !t.runs then s
  else
    let p := filterStep s.loft.active.rounding t.active t.tx t.ty bx by_
    let s := s.setTracker { t with tx := p.1, ty := p.2, crossStruck := true }
    if t.state = .lost then
      requestTrack true s.loft.active
        (s.setTracker { s.tracker with state := .tracking, lossCount := 0 })
    else s

/-! ### Ending a run (R151, R152) -/

/-- The write-back requested in place of any earlier one (R152, R163). -/
def requestWriteBack (a : Addr) (w : Word) (s : State) : State :=
  let s := match s.tracker.writeBack with
    | some b =>
      if b.granted then s else afterWithdrawal (s.setTracker { s.tracker with writeBack := none })
    | none => s
  s.setTracker { s.tracker with writeBack := some { addr := a, word := w, granted := false } }

/-- The write-back of R152, when its conditions hold. -/
def offerWriteBack (s : State) : State :=
  match s.tracker.cross with
  | some c =>
    if c.substituted then requestWriteBack c.addr (withXY c.word s.tracker.tx s.tracker.ty) s else s
  | none => s

/-- The end of a run with a reason; nothing when the state is OFF (R151). -/
def endRun (reason : EndReason) (s : State) : State :=
  if s.tracker.runs then
    let r := trackReport .trackEnd s.loft.active s
    let lost := s.tracker.state == .lost
    let s := requestReport { r with code := some reason.code, flags := { r.flags with lost := lost } } s
    let s := offerWriteBack s
    s.setTracker { s.tracker with
      state := .off, lossCount := 0, crossStruck := false, sightedThisFrame := false,
      sightedLastFrame := false, lastReported := none }
  else s

/-- The Tracking Unit is told that a write-back has been placed (R153); a later one, requested while it was
in progress, stays outstanding (R163). -/
def writeBackAnswered (s : State) : State :=
  match s.tracker.writeBack with
  | some b => if b.granted then s.setTracker { s.tracker with writeBack := none } else s
  | none => s

/-! ### Frame end -/

/-- The loss count at frame end (R149). -/
def countLoss (s : State) : State :=
  let t := s.tracker
  if t.runs then
    s.setTracker { t with
      lossCount := if t.crossStruck then 0 else min 15 (t.lossCount + 1)
      comparedLoss := t.active.lossLimit
      crossStruck := false }
  else s

/-- The loss count has reached the T it was compared with: the run goes LOST (R149). -/
def goLost (view : ViewSettings) (s : State) : State :=
  if s.tracker.state = .tracking ∧ s.tracker.comparedLoss ≤ s.tracker.lossCount then
    requestReport (trackReport .trackLost view s) (s.setTracker { s.tracker with state := .lost })
  else s

/-- The TRACK report of a frame end (R150, step 1). -/
def frameTrack (view : ViewSettings) (s : State) : State :=
  if s.tracker.state = .tracking ∧ s.tracker.lastReported ≠ some (s.tracker.tx, s.tracker.ty) then
    requestTrack false view s
  else s

/-- The tracking settings' shadow applied at frame end (R150, step 4). -/
def applyTrackShadow (t : Tracker) : Tracker :=
  match t.shadow with
  | none => t
  | some b =>
    let boxChanged := b.xmin ≠ t.active.xmin ∨ b.xmax ≠ t.active.xmax ∨ b.ymin ≠ t.active.ymin ∨
      b.ymax ≠ t.active.ymax
    let p := if boxChanged then intoBox b t.tx t.ty else (t.tx, t.ty)
    { t with active := b, shadow := none, tx := p.1, ty := p.2,
             cross := if b.crossName = t.active.crossName then t.cross else none }

/-- Steps 2 to 4 of R150: sightings, the record's frame flag, the shadow. -/
def trackRollFrame (t : Tracker) : Tracker :=
  applyTrackShadow { t with
    sightedLastFrame := t.sightedThisFrame, sightedThisFrame := false,
    cross := t.cross.map (fun c => { c with fetchedThisFrame := false }) }

/-- The Tracking Unit's frame end, its reports by the view settings of the frame just ended (R149, R150). -/
def trackFrameEnd (view : ViewSettings) (s : State) : State :=
  let s := frameTrack view (goLost view (countLoss s))
  s.setTracker (trackRollFrame s.tracker)

/-- A TRACK setup (R36, R140). -/
def trackMerge (candidate : TrackSettings) (s : State) : State :=
  s.setTracker { s.tracker with shadow := shadowOf s.tracker.active candidate }

end Sys2Proof.Machine
end

