-- ==== Sys2Proof/Machine/Attribution.lean ====
section
/-! DEFINITION. The Strike Attributor (05_strike_attribution_and_the_menu_map.md): candidate set, cross test,
filter, ranking, menu resolution, the strike result and its taking by its receiver. -/

namespace Sys2Proof.Machine

/-- The candidate set of a strike (R81): the entries within the window and the newest, oldest first. -/
def candidates (h : List HistoryEntry) (t : Time) (tLW : Nat) : List HistoryEntry :=
  h.dropLast.filter (fun e => elapsed t e.fetchTime ≤ tLW) ++ h.getLast?.toList

/-- Whether a candidate stands under the active cross name (R83, R84). -/
def underCross (cross : Name) (c : List HistoryEntry) : Bool :=
  cross != 0 && c.any (fun e => e.name == cross)

/-- The filter (R85). -/
def filterCandidates (s : State) (c : List HistoryEntry) : List HistoryEntry :=
  c.filter (fun e =>
    !(s.tracker.active.crossName != 0 && e.name == s.tracker.active.crossName) &&
    (attributesOf s e.name).sensitivity != .blind)

/-- The ranking (R86): priority 7 down to 0, and among equals the later in the history first. -/
def rankCandidates (s : State) (c : List HistoryEntry) : List HistoryEntry :=
  [7, 6, 5, 4, 3, 2, 1, 0].flatMap (fun p =>
    c.reverse.filter (fun e => (attributesOf s e.name).priority == p))

/-- The character index of a menu candidate under a beam X, when one exists (R88). -/
def characterIndex (t : TextPart) (bx : Coord) : Option Nat :=
  let limit := min t.count t.fetched
  if limit = 0 then none
  else
    let raw := ((bx.toNat : Int) - t.startX.toNat) / (t.pitch : Int)
    some (if raw < 0 then 0 else min raw.toNat (limit - 1))

/-- Whether a candidate is a menu candidate (R87). -/
def menuText (e : HistoryEntry) : Option TextPart :=
  match e.text with
  | some t => if t.menu then some t else none
  | none => none

/-- The item a menu candidate yields (R88, R89). -/
def yieldedItem (m : List MenuEntry) (e : HistoryEntry) (t : TextPart) (bx : Coord) :
    Option (Nat × Item) :=
  (characterIndex t bx).bind (menuLookup m e.addr e.name t.count)

/-- The winner result of a candidate with the item it yielded, if any (R91). -/
def winnerOf (s : State) (bx by_ : Coord) (e : HistoryEntry) (i : Option (Nat × Item)) : Winner :=
  let a := attributesOf s e.name
  { time := s.time, sampleX := bx, sampleY := by_
    key := { name := e.name, item := i.map (·.1) }
    orderAddr := e.addr, path := e.path, edited := e.edited, priority := a.priority
    isMenu := a.classPart.isMenu, locked := a.sensitivity == .locked
    item := i.map (fun x => { textAddr := e.addr, start := x.2.start, length := x.2.length }) }

/-- The winner among ranked candidates (R90). -/
def firstWinner (s : State) (bx by_ : Coord) : List HistoryEntry → Option Winner
  | [] => none
  | e :: l =>
    match menuText e with
    | none => some (winnerOf s bx by_ e none)
    | some t =>
      match yieldedItem s.menuMap e t bx with
      | some i => some (winnerOf s bx by_ e (some i))
      | none => firstWinner s bx by_ l

/-! ### Handing on (R92)

A result is judged in the state of its strike and taken in the state its receiver finds. Each receiver takes what it is
handed in the order of the strikes; how much of it each has taken by the next event is free (assumption logs 2 and
25). -/

/-- A winner result handed to the Gate Unit (R92). -/
def handGate (w : Winner) (s : State) : State := s.setHanded { s.handed with gate := s.handed.gate ++ [w] }

/-- A cross result or a sighting handed to the Tracking Unit (R84, R92). -/
def handTracker (r : CrossHandOff) (s : State) : State :=
  s.setHanded { s.handed with tracker := s.handed.tracker ++ [r] }

/-- A strike at the Attributor, its results handed on, a sighting first (R79, R83, R84, R92). An empty result changes
nothing at the Gate Unit, whatever its state (R105, R113, R116), and is not kept. -/
def attributeStrike (bx by_ : Coord) (s : State) : State :=
  let c := candidates s.follower.history s.time s.pen.active.tLW
  let cross := underCross s.tracker.active.crossName c
  if s.tracker.runs && cross then handTracker (.result s.time bx by_) s
  else
    let result := firstWinner s bx by_ (rankCandidates s (filterCandidates s c))
    let s := if cross then handTracker (.sighting s.time) s else s
    match result with
    | some w => handGate w s
    | none => s

/-- A cross result or a sighting taken by the Tracking Unit, in the state in which it takes it (R144, R148). -/
def takeCross (r : CrossHandOff) (s : State) : State :=
  match r with
  | .result _ x y => trackCross x y s
  | .sighting _ => trackSighting s

/-- The Gate Unit takes its oldest results (R104, R113, R116). -/
def gateResultsTake (n : Nat) (s : State) : State :=
  let q := s.handed.gate
  takeOldest n q gateWinner (s.setHanded { s.handed with gate := q.drop n })

/-- The Tracking Unit takes its oldest cross results and sightings (R144, R148). -/
def crossResultsTake (n : Nat) (s : State) : State :=
  let q := s.handed.tracker
  takeOldest n q takeCross (s.setHanded { s.handed with tracker := q.drop n })

/-- The two receivers take some of what has been handed on, each a free number of its own. -/
def meetResults (s : State) : State :=
  if s.handed = .none then s
  else
    let s := takeSome s.handed.gate.length gateResultsTake s
    takeSome s.handed.tracker.length crossResultsTake s

/-- The strike time of what has been handed to the Tracking Unit. -/
def CrossHandOff.time : CrossHandOff → Time
  | .result t _ _ | .sighting t => t

/-- The two receivers take what was handed on in earlier microseconds than the present one. -/
def takeEarlierResults (s : State) : State :=
  if s.handed = .none then s
  else
    let s := gateResultsTake (s.handed.gate.takeWhile (fun w => w.time != s.time)).length s
    crossResultsTake (s.handed.tracker.takeWhile (fun r => r.time != s.time)).length s

end Sys2Proof.Machine
end

