-- ==== Sys2Proof/Machine/Operands.lean ====
section
/-! DEFINITION. The operand forms of PASS orders: every field of every subtype at the bit positions of
12_word_and_record_layouts.md, 12.2, clamped by R32, and the candidate sets they form over the present values
(R31, R36, R38). A PASS order is handed over as its 1 + e stored words, the order word first (R24, R30). -/

namespace Sys2Proof.Machine

/-- Argument `j`, present when e is at least `j` (R31). -/
def argument (ws : List Word) (j : Nat) : Option Word := if j = 0 then none else ws[j]?

/-- A present value changed by an argument when it is present (R31). -/
def withArgument {α : Type} (ws : List Word) (j : Nat) (f : Word → α → α) (present : α) : α :=
  match argument ws j with
  | some w => f w present
  | none => present

/-! ### SEGMENT and READOUT -/

def classField (c : BitVec 2) : SegmentClass :=
  match c.toNat with
  | 0 => .draw
  | 1 => .menu
  | _ => .readout

def sensitivityField (c : BitVec 2) : Sensitivity :=
  match c.toNat with
  | 0 => .pick
  | 1 => .locked
  | _ => .blind

def highlightField (c : BitVec 2) : Highlight :=
  match c.toNat with
  | 0 => .none
  | 1 => .bright
  | 2 => .dim
  | _ => .blink

/-- SEGMENT arg1 (12.2, R32). -/
def commonFields (w : Word) : CommonFields :=
  { cls := classField (bitsAt w 22 2)
    sensitivity := sensitivityField (bitsAt w 20 2)
    priority := (bitsAt w 17 3).toNat
    highlight := highlightField (bitsAt w 15 2)
    boost := clampNat 1 15 (bitsAt w 11 4).toNat }

/-- SEGMENT arg2 (12.2). -/
def menuFields (w : Word) : Glyph × Trigger :=
  (bitsAt w 0 7, if flagAt w 7 then .dwell else .tip)

/-- READOUT arg1 (12.2, R32). -/
def readoutFields (w : Word) : ReadoutPart :=
  { axis := if flagAt w 23 then .b else .a
    form := if flagAt w 22 then .station else .linear
    digits := clampNat 1 7 (bitsAt w 19 3).toNat
    fill := if flagAt w 18 then .blank else .zero
    overflowMark := bitsAt w 0 7 }

/-! ### VIEW and GRID -/

/-- A signed 24-bit argument clamped to ±999,999 (R32). -/
def lengthField (w : Word) : Int := clampInt (-999999) 999999 w.toInt

def viewField (c : BitVec 2) : View :=
  match c.toNat with
  | 0 => .plan
  | 1 => .sheer
  | _ => .body

def roundingField (c : BitVec 2) : Rounding :=
  match c.toNat with
  | 0 => .rn
  | 1 => .rz
  | 2 => .rp
  | _ => .rm

/-- The candidate set of a VIEW order (R31, R122). -/
def viewCandidate (payload : BitVec 12) (ws : List Word) (present : ViewSettings) : ViewSettings :=
  withArgument ws 4 (fun w v => { v with centreline := clampNat 256 767 (bitsAt w 0 10).toNat })
  (withArgument ws 3 (fun w v => { v with originB := lengthField w })
  (withArgument ws 2 (fun w v => { v with originA := lengthField w })
  (withArgument ws 1 (fun w v => { v with scale := clampNat 1 65535 (bitsAt w 0 16).toNat })
    { present with
      view := viewField (payload.extractLsb' 2 2)
      rounding := roundingField (payload.extractLsb' 0 2) })))

/-- The candidate set of a GRID order (R31, R122). -/
def gridCandidate (ws : List Word) (present : ViewSettings) : ViewSettings :=
  withArgument ws 3 (fun w v => { v with frameZero := lengthField w })
  (withArgument ws 2 (fun w v => { v with spacing := clampNat 100 9999 (bitsAt w 0 14).toNat })
  (withArgument ws 1 (fun w v => { v with grid := clampNat 0 9999 (bitsAt w 0 14).toNat }) present))

/-! ### GATE and TRACK -/

/-- The candidate set of a GATE order (R31, R101). -/
def gateCandidate (ws : List Word) (present : GateSettings) : GateSettings :=
  withArgument ws 1 (fun w _ =>
    { length := clampNat 1 15 (bitsAt w 0 4).toNat
      dwell := clampNat 2 15 (bitsAt w 4 4).toNat
      hover := flagAt w 8 }) present

/-- A box pair put in order (R38). -/
def orderedPair (a b : Coord) : Coord × Coord := if b.toNat < a.toNat then (b, a) else (a, b)

/-- The candidate set of a TRACK order (R31, R38, R140). -/
def trackCandidate (payload : BitVec 12) (ws : List Word) (present : TrackSettings) : TrackSettings :=
  withArgument ws 3 (fun w v =>
    let p := orderedPair (bitsAt w 10 10) (bitsAt w 0 10)
    { v with ymin := p.1, ymax := p.2 })
  (withArgument ws 2 (fun w v =>
    let p := orderedPair (bitsAt w 10 10) (bitsAt w 0 10)
    { v with xmin := p.1, xmax := p.2 })
  (withArgument ws 1 (fun w v =>
    { v with gainShift := (bitsAt w 0 2).toNat, lossLimit := clampNat 1 15 (bitsAt w 2 4).toNat })
    { present with crossName := payload }))

/-! ### RING, PEN and TIMING -/

/-- The candidate ring of a RING order over the present ring, the pending one's values first, if there is one (R36,
R39). -/
def ringCandidate (ws : List Word) (present : Option Ring) : Option Ring :=
  match (argument ws 1).map addrField <|> present.map (·.base),
        (argument ws 2).map (fun w => clampNat 1 63 (bitsAt w 0 6).toNat + 1) <|> present.map (·.slots) with
  | some b, some n => some { base := b, slots := n }
  | _, _ => none

/-- Whether a candidate ring is valid (R39). -/
def ringValid (r : Ring) : Bool :=
  r.base.toNat % 16 == 0 && r.base.toNat + 16 * r.slots ≤ 262144

def edgeModeField (c : BitVec 2) : EdgeMode :=
  match c.toNat with
  | 0 => .rising
  | 1 => .falling
  | 2 => .any
  | _ => .level

/-- The candidate set of a PEN order (R31, R65). -/
def penCandidate (payload : BitVec 12) (ws : List Word) (present : PenSettings) : PenSettings :=
  withArgument ws 1 (fun w v =>
    { v with
      tLW := (bitsAt w 15 4).toNat
      tDT := clampNat 1 63 (bitsAt w 9 6).toNat
      strikeLimit := clampNat 1 16 (bitsAt w 0 5).toNat })
    { present with
      edgeMode := edgeModeField (payload.extractLsb' 4 2)
      photoInvert := payload.getLsbD 3
      tipInvert := payload.getLsbD 2
      inhibitMode := if payload.getLsbD 1 then .latch else .level }

/-- The tDB field of a TIMING order, in the pen settings (R31, R35). -/
def timingPenCandidate (ws : List Word) (present : PenSettings) : PenSettings :=
  withArgument ws 1 (fun w v => { v with tDB := clampNat 1 31 (bitsAt w 0 5).toNat }) present

/-- The tFT field of a TIMING order (R38). -/
def timingFrameTimeout (ws : List Word) (present : Nat) : Nat :=
  withArgument ws 1 (fun w _ => clampNat 10 255 (bitsAt w 5 8).toNat) present

/-! ### COMMAND -/

/-- The command codes (R41). -/
inductive Command where
  | startTrack | stopTrack | cancelGate | clearEcho | dropSegment | clearTable | mark
  deriving DecidableEq, Repr

/-- The command of a code; `none` for a code that names none (R40, R41). -/
def commandOf (code : BitVec 4) : Option Command :=
  match code.toNat with
  | 1 => some .startTrack
  | 2 => some .stopTrack
  | 3 => some .cancelGate
  | 4 => some .clearEcho
  | 5 => some .dropSegment
  | 6 => some .clearTable
  | 7 => some .mark
  | _ => none

/-- The command code of a payload: bits 11..8 (12.2). -/
def commandCode (payload : BitVec 12) : BitVec 4 := payload.extractLsb' 8 4

/-- The operand of a payload: bits 7..0 (12.2). -/
def commandOperand (payload : BitVec 12) : BitVec 8 := payload.extractLsb' 0 8

end Sys2Proof.Machine
end

