-- ==== Sys2Proof/Machine/Pass.lean ====
section
/-! DEFINITION. The Pass Decoder (02_pass_orders_setup_protection_and_commands.md): classes, protection,
setups and commands. -/

namespace Sys2Proof.Machine

/-! ### Protection (R33, R34) -/

/-- Whether the boundary of the sampled straps honours a SYSTEM order at an address (R33). -/
def honoured (straps : BitVec 4) (a : Addr) : Bool :=
  straps = 0 || a.toNat < straps.toNat * 16384

/-- A refused SYSTEM order: at most one PROTECTED report a frame (R34). -/
def refuseProtected (a : Addr) (s : State) : State :=
  if s.pass.protectedReported then s
  else
    (requestReport (conditionReport .isProtected (some a) none s) s).setPass
      { s.pass with protectedReported := true }

/-- The Pass Decoder's frame end (R34). -/
def passFrameEnd (s : State) : State := s.setPass { s.pass with protectedReported := false }

/-! ### Setups (R35 to R39) -/

/-- PEN and the tDB field of TIMING, merged into the pen settings' shadow (R36, R65). -/
def penMerge (candidate : PenSettings) (s : State) : State :=
  s.setPen { s.pen with shadow := shadowOf s.pen.active candidate }

/-- The tFT field, merged by the Order Follower (R36, R38). -/
def frameTimeoutMerge (candidate : Nat) (s : State) : State :=
  s.setFollower { s.follower with pendingTFT := shadowOf s.follower.tFT candidate }

/-- A NAME hand-off (R35). -/
def passName (payload : BitVec 12) (s : State) : State :=
  if payload = 0 then s else markSeen payload s

/-- A SEGMENT order (R37). -/
def passSegment (payload : BitVec 12) (ws : List Word) (a : Addr) (s : State) : State :=
  if payload = 0 then s
  else segmentSetup payload ((argument ws 1).map commonFields) ((argument ws 2).map menuFields) a s

/-- A READOUT order (R37). -/
def passReadout (payload : BitVec 12) (ws : List Word) (s : State) : State :=
  if payload = 0 then s else readoutSetup payload ((argument ws 1).map readoutFields) s

def passView (payload : BitVec 12) (ws : List Word) (s : State) : State :=
  loftMerge (viewCandidate payload ws (presentValue s.loft.active s.loft.shadow)) s

def passGrid (ws : List Word) (s : State) : State :=
  loftMerge (gridCandidate ws (presentValue s.loft.active s.loft.shadow)) s

def passGate (ws : List Word) (s : State) : State :=
  gateMerge (gateCandidate ws (presentValue s.gate.active s.gate.shadow)) s

def passTrack (payload : BitVec 12) (ws : List Word) (s : State) : State :=
  trackMerge (trackCandidate payload ws (presentValue s.tracker.active s.tracker.shadow)) s

/-- A RING order that the protection check honours (R39). DESIGN CHOICE (assumption log 23): where a shadow is pending
and no ring is active, a RING that lacks an argument takes it from the shadow, as R36 and R39 say; R47 calls every such
RING invalid until a valid RING becomes active. -/
def passRing (ws : List Word) (a : Addr) (s : State) : State :=
  match ringCandidate ws (s.reports.shadow <|> s.reports.ring) with
  | some r =>
    if ringValid r then ringMerge r s
    else requestReport (conditionReport .ringInvalid (some a) none s) s
  | none => requestReport (conditionReport .ringInvalid (some a) none s) s

def passPen (payload : BitVec 12) (ws : List Word) (s : State) : State :=
  penMerge (penCandidate payload ws (presentValue s.pen.active s.pen.shadow)) s

/-- A TIMING order: one setup, two owners (R35). -/
def passTiming (ws : List Word) (s : State) : State :=
  let s := frameTimeoutMerge
    (timingFrameTimeout ws (presentValue s.follower.tFT s.follower.pendingTFT)) s
  penMerge (timingPenCandidate ws (presentValue s.pen.active s.pen.shadow)) s

/-! ### Commands (R40 to R43) -/

/-- START-TRACK: the start position it gives, or its refusal (R41, R146). -/
def startTrackPosition (ws : List Word) (s : State) : Except RefusalCode (Coord × Coord) :=
  if s.tracker.active.crossName = 0 then .error .noCross
  else if s.tracker.runs then .error .trackActive
  else
    match argument ws 1, s.gate.lastPick with
    | some w, _ => .ok (intoBox s.tracker.active (moveX w) (moveY w))
    | none, some p => .ok (intoBox s.tracker.active p.sampleX p.sampleY)
    | none, none => .error .noPosition

/-- What a command does at its take, or its refusal (R41). -/
def commandEffect (payload : BitVec 12) (ws : List Word) (a : Addr) (s : State) :
    Except RefusalCode State :=
  match commandOf (commandCode payload) with
  | some .startTrack =>
    match startTrackPosition ws s with
    | .ok p => .ok (beginRun p s)
    | .error c => .error c
  | some .stopTrack => if s.tracker.runs then .ok (endRun .command s) else .error .notTracking
  | some .cancelGate => .ok (closeGate s)
  | some .clearEcho => .ok (echoClear s)
  | some .dropSegment =>
    match argument ws 1 with
    | some w =>
      if bitsAt w 0 12 = 0 then .error .noSuchSegment
      else if (s.segments.find (bitsAt w 0 12)).isSome then .ok (markDrop (bitsAt w 0 12) s)
      else .error .noSuchSegment
    | none => .error .noSuchSegment
  | some .clearTable => .ok (markAllDropped s)
  | some .mark => .ok (requestReport (markReport (commandOperand payload) a s) s)
  | none => .error .unassignedCommand

/-- A command's effect, with the REFUSAL report of a refused one (R40, R42). -/
def actOnCommand (payload : BitVec 12) (ws : List Word) (a : Addr) (s : State) : State :=
  match commandEffect payload ws a s with
  | .ok s' => s'
  | .error c => requestReport (refusalReport c a s) s

/-- A taken command on the Consumption List, its consumption write requested (R40, R43). -/
def listCommand (a : Addr) (extra : Nat) (s : State) : State :=
  s.setPass { s.pass with consumption := s.pass.consumption ++ [{ addr := a, extra := extra }] }

/-- A COMMAND hand-off (R40). The entry is listed with its consumption write, R40's step 4: nothing in steps 2
and 3 reads the list, and the request joins the set of R163 only then. -/
def passCommand (payload : BitVec 12) (extra : Nat) (ws : List Word) (a : Addr) (s : State) : State :=
  if s.pass.consumption.any (fun c => c.addr == a) then s
  else if 4 ≤ s.pass.consumption.length then s
  else listCommand a extra (actOnCommand payload ws a s)

/-! ### The hand-off (R24, R30) -/

/-- The classes of PASS subtypes (R30). -/
inductive PassClass where
  | openOrder | systemOrder | unassigned
  deriving DecidableEq, Repr

/-- R30. -/
def passClass (subtype : Nat) : PassClass :=
  if subtype ≤ 8 then .openOrder else if 16 ≤ subtype ∧ subtype ≤ 18 then .systemOrder else .unassigned

/-- An OPEN order (R30, R35). -/
def passOpen (subtype : Nat) (payload : BitVec 12) (extra : Nat) (ws : List Word) (a : Addr)
    (s : State) : State :=
  match subtype with
  | 1 => passName payload s
  | 2 => passSegment payload ws a s
  | 3 => passReadout payload ws s
  | 4 => passView payload ws s
  | 5 => passGrid ws s
  | 6 => passGate ws s
  | 7 => passTrack payload ws s
  | 8 => passCommand payload extra ws a s
  | _ => s

/-- A SYSTEM order that is honoured (R35). -/
def passSystem (subtype : Nat) (payload : BitVec 12) (ws : List Word) (a : Addr) (s : State) : State :=
  match subtype with
  | 16 => passRing ws a s
  | 17 => passPen payload ws s
  | 18 => passTiming ws s
  | _ => s

/-- A PASS order handed over with the address of its order word and its stored words (R30). -/
def handOff (a : Addr) (extra subtype : Nat) (payload : BitVec 12) (ws : List Word) (s : State) :
    State :=
  match passClass subtype with
  | .openOrder => passOpen subtype payload extra ws a s
  | .systemOrder =>
    if honoured s.pass.straps a then passSystem subtype payload ws a s else refuseProtected a s
  | .unassigned => s

/-! ### Notices and completions (R44, R45) -/

/-- A P-write notice at the Pass Decoder (R44). -/
def passNotice (a : Addr) (s : State) : State :=
  if s.pass.consumption.any (fun c => c.addr == a) then
    afterWithdrawal (s.setPass { s.pass with
      consumption := s.pass.consumption.filter (fun c => c.addr != a) })
  else s

/-- The Pass Decoder is told that the consumption write at an address has been placed (R45). -/
def consumptionAnswered (a : Addr) (s : State) : State :=
  s.setPass { s.pass with consumption := s.pass.consumption.filter (fun c => c.addr != a) }

end Sys2Proof.Machine
end

