-- ==== Sys2Proof/Machine/Pen.lean ====
section
/-! DEFINITION. The Pen Front End (04_the_pen_front_end.md): pulses and strikes, the inhibit line, the tip
line, and the frame end. -/

namespace Sys2Proof.Machine

/-! ### Pulses and strikes -/

/-- A line's conditioned level under its invert setting (R66, R74). -/
def conditioned (line invert : Bool) : Bool := line != invert

/-- Whether a pulse is inhibited (R72, R73). -/
def inhibited (s : State) : Bool :=
  match s.pen.active.inhibitMode with
  | .level => s.pins.pinh
  | .latch => s.pen.inhibitLatch

/-- Whether the dead time allows a pulse (R69). -/
def deadTimeAllows (s : State) : Bool :=
  match s.pen.lastStrike with
  | none => true
  | some t => s.pen.active.tDT ≤ elapsed s.time t || 63 ≤ elapsed s.time t

/-- Whether the five conditions of R68 hold, the two states read from the Pen Front End's own copies. -/
def pulseAccepted (s : State) : Bool :=
  s.pen.followCopy == .following && s.pen.displayCopy == .running && !inhibited s &&
  deadTimeAllows s && s.pen.strikes < s.pen.active.strikeLimit

/-- A pulse judged under the copies as they stand: a strike, sampled and attributed, its result taken or still to be
taken, or nothing (R68, R71, R92). -/
def judgePulse (s : State) : State :=
  if pulseAccepted s then
    meetResults (attributeStrike s.pins.defx s.pins.defy
      (s.setPen { s.pen with lastStrike := some s.time, strikes := s.pen.strikes + 1 }))
  else s

/-- Whether the Pen Front End has taken every change of follow state and display state offered to it (R25, R68). -/
def changesTaken (s : State) : Bool :=
  s.pen.followCopy == s.follower.follow && s.pen.displayCopy == s.follower.display

/-- The changes offered are taken: the copies show the states as they are (R25, R68). -/
def takeChanges (s : State) : State :=
  s.setPen { s.pen with followCopy := s.follower.follow, displayCopy := s.follower.display }

/-- A pulse that meets a change of its own microsecond, taken before the change or after it. Before it, a strike may
be accepted on a Fetch History already emptied by an entry to LOST (R68, R80). -/
def pulseMeeting (pulseFirst : Bool) (s : State) : State :=
  if pulseFirst then judgePulse s else judgePulse (takeChanges s)

/-- A pulse; a change still to be taken is one of this microsecond, and the order is free (R68, assumption logs 2
and 20). -/
def pulse (s : State) : State :=
  if changesTaken s then judgePulse s else pulseMeeting (drawn s % 2 == 0) (afterDraw s)

/-- The repetition interval started now with the active tDT (R67). -/
def repetitionNow (s : State) : Interval := { since := s.time, length := s.pen.active.tDT }

/-- Whether an edge gives a pulse in an edge mode (R66, R67). -/
def edgePulses (mode : EdgeMode) (rising : Bool) : Bool :=
  match mode with
  | .rising | .level => rising
  | .falling => !rising
  | .any => true

/-- A change of PHOTO (R66, R67). -/
def photoChange (s : State) : State :=
  let photo := !s.pins.photo
  let s := s.setPins { s.pins with photo := photo }
  let level := conditioned photo s.pen.active.photoInvert
  let s := s.setPen { s.pen with
    photoLevel := level
    repetition :=
      if s.pen.active.edgeMode = .level ∧ level = true then some (repetitionNow s) else none }
  if edgePulses s.pen.active.edgeMode level then pulse s else s

/-- Whether the repetition interval has expired. -/
def repetitionDue (s : State) : Bool := s.pen.repetition.any (fun i => i.expired s.time)

/-- The expiry of the repetition interval (R67). -/
def repetitionExpires (s : State) : State :=
  pulse (s.setPen { s.pen with repetition := some (repetitionNow s) })

/-- Whether the last-strike record is 63 µs old. -/
def discardDue (s : State) : Bool := s.pen.lastStrike.any (fun t => 63 ≤ elapsed s.time t)

/-- The discard of the last-strike record (R69). -/
def discardRecord (s : State) : State := s.setPen { s.pen with lastStrike := none }

/-! ### The inhibit line (R73) -/

/-- A change of PINH (R72, R73). -/
def pinhChanges (s : State) : State :=
  let s := s.setPins { s.pins with pinh := !s.pins.pinh }
  if s.pen.active.inhibitMode = .latch ∧ s.pins.pinh = true then
    s.setPen { s.pen with inhibitLatch := true }
  else s

/-! ### The tip line (R74, R75) -/

/-- Whether a conditioned tip level disagrees with a tip state (R74). -/
def disagrees (level : Bool) (tip : TipState) : Bool := level != (tip == .down)

/-- The debounce interval started now with a tDB in ms (R74). -/
def debounceFrom (now : Time) (tDB : Nat) : Interval := { since := now, length := milliseconds tDB }

/-- A new conditioned tip level, judged against the tip state (R74). -/
def judgeTip (now : Time) (level : Bool) (p : Pen) : Pen :=
  { p with
    tipLevel := level
    debounce := if disagrees level p.tip then some (debounceFrom now p.active.tDB) else none }

/-- A change of TIP (R74). -/
def tipChanges (s : State) : State :=
  let tip := !s.pins.tip
  let s := s.setPins { s.pins with tip := tip }
  s.setPen (judgeTip s.time (conditioned tip s.pen.active.tipInvert) s.pen)

/-- A tip-down at its two receivers: it starts tracking or opens the gate (R75, R103, R145). -/
def tipDown (s : State) : State :=
  match tipStart s.tracker with
  | some p => beginRun p s
  | none => openGate s

/-- The receivers of a tip-up or of the STOPPED event, and the block that reports it: each may be first. -/
inductive EventTaker where
  | follower | gate | tracker
  deriving DecidableEq, Repr

/-- A tip-up at one receiver (R107, R151). -/
def tipUpAt (s : State) : EventTaker → State
  | .gate => closeDeciding false s
  | .tracker => endRun .tip s
  | .follower => s

/-- A tip-up at its two receivers in a given order (R75). -/
def tipUpIn (order : List EventTaker) (s : State) : State := order.foldl tipUpAt s

/-- A tip-up, its receivers in a free order (R75, assumption log 2). -/
def tipUp (s : State) : State := tipUpIn (permute (drawn s) [.gate, .tracker]) (afterDraw s)

/-- Whether the debounce interval has expired. -/
def debounceDue (s : State) : Bool := s.pen.debounce.any (fun i => i.expired s.time)

/-- The expiry of the debounce interval: the tip state changes and its event is made (R74, R75). -/
def debounceExpires (s : State) : State :=
  match s.pen.tip with
  | .up => tipDown (s.setPen { s.pen with tip := .down, debounce := none })
  | .down => tipUp (s.setPen { s.pen with tip := .up, debounce := none })

/-! ### Frame end (R76) -/

/-- The repetition interval after the application of new settings (R76). -/
def repetitionAfter (old new : PenSettings) (level : Bool) (now : Time) (running : Option Interval) :
    Option Interval :=
  match new.edgeMode, old.edgeMode with
  | .level, .level =>
    if new.photoInvert = old.photoInvert then running
    else if level then some (running.getD { since := now, length := new.tDT }) else none
  | .level, _ => if level then some { since := now, length := new.tDT } else none
  | _, _ => none

/-- A pending shadow applied, with its effect on running mechanisms (R76). -/
def Pen.applyShadow (p : Pen) (pins : Pins) (now : Time) : Pen :=
  match p.shadow with
  | none => p
  | some new =>
    let level := if new.photoInvert = p.active.photoInvert then p.photoLevel
      else conditioned pins.photo new.photoInvert
    let q : Pen := { p with
      active := new, shadow := none, photoLevel := level
      repetition := repetitionAfter p.active new level now p.repetition }
    if new.tipInvert = p.active.tipInvert then q
    else judgeTip now (conditioned pins.tip new.tipInvert) q

/-- The inhibit latch at frame end, by the inhibit mode now in force (R73, R76). -/
def Pen.rollLatch (p : Pen) (pinh : Bool) : Pen :=
  { p with
    strikes := 0
    inhibitLatch := match p.active.inhibitMode with
      | .level => false
      | .latch => p.inhibitLatch && pinh }

/-- The Pen Front End's frame end (R76). -/
def penFrameEnd (s : State) : State :=
  s.setPen ((s.pen.applyShadow s.pins s.time).rollLatch s.pins.pinh)

end Sys2Proof.Machine
end

