-- ==== Sys2Proof/Machine/FrameEnd.lean ====
section
/-! DEFINITION. The frame end as one event of the Order Follower, offered to every block (R15), and the
frame-timeout expiry (R26, R27). -/

namespace Sys2Proof.Machine

/-! ### The frame end -/

/-- The blocks whose work at one frame end meets another's: a report request, a ring application, a drop offer
or an echo request. Each may take the frame end before or after the others (R15, R176). -/
inductive FrameTaker where
  | follower | segments | gate | tracker | echo | reports
  deriving DecidableEq, Repr

/-- All of them. -/
def frameTakers : List FrameTaker := [.follower, .segments, .gate, .tracker, .echo, .reports]

/-- The Order Follower's own steps at a frame end (R14, R15, R27). -/
def Follower.frameEnd (f : Follower) (now : Time) : Follower :=
  { f with
    frameNo := f.frameNo + 1
    tFT := presentValue f.tFT f.pendingTFT, pendingTFT := none
    timeoutSince := now, timeoutArmed := true
    display := .running }

/-- What a frame end carries over from the frame just ended: the address a DISPLAY-RESUMED names when the
display was STOPPED (R27), the names the Segment Table drops (R61), and the view settings (R150). -/
structure FrameFacts where
  resumedAt : Option Addr
  dropped : List Name
  view : ViewSettings
  deriving DecidableEq, Repr

/-- The facts of a frame end made by the fetch at an address. -/
def frameFacts (a : Addr) (s : State) : FrameFacts :=
  { resumedAt := if s.follower.display = .stopped then some a else none
    dropped := droppedNames s.segments
    view := s.loft.active }

/-- The frame end at one of the blocks whose work meets another's (R27, R61, R118, R150, R181, R196). -/
def frameEndAt (facts : FrameFacts) (s : State) : FrameTaker → State
  | .follower =>
    match facts.resumedAt with
    | some a => requestReport (conditionReport .displayResumed (some a) none s) s
    | none => s
  | .segments => echoDropped facts.dropped s
  | .gate => gateFrameEnd s
  | .tracker => trackFrameEnd facts.view s
  | .echo => echoFrameEnd s
  | .reports => reportsFrameEnd s

/-- The frame end at the blocks whose work meets no other's: the raised frame number first, then the Pass
Decoder, the Pen Front End, the Loft Arithmetic Unit and the Segment Table (R15, R34, R59, R76, R123). -/
def frameEndQuiet (s : State) : State :=
  segmentsFrameEnd (loftFrameEnd (penFrameEnd (passFrameEnd
    (s.setFollower (s.follower.frameEnd s.time)))))

/-- The frame end made by the fetch at an address, the blocks in a given order (R15). -/
def frameEndIn (order : List FrameTaker) (a : Addr) (s : State) : State :=
  order.foldl (frameEndAt (frameFacts a s)) (frameEndQuiet s)

/-- The frame end, the blocks in a free order (R15, assumption log 2). -/
def frameEnd (a : Addr) (s : State) : State :=
  frameEndIn (permute (drawn s) frameTakers) a (afterDraw s)

/-! ### The frame timeout -/

/-- Whether the frame timeout has expired (R26). -/
def timeoutDue (s : State) : Bool :=
  s.follower.timeoutArmed && s.follower.display == .running &&
  milliseconds s.follower.tFT ≤ elapsed s.time s.follower.timeoutSince

/-- The STOPPED event and its condition report, at one taker (R26, R107, R151). -/
def stoppedAt (s : State) : EventTaker → State
  | .follower => requestReport (conditionReport .displayStopped none none s) s
  | .gate => closeDeciding true s
  | .tracker => endRun .stopped s

/-- The display state becomes STOPPED and the timeout is disarmed (R26). -/
def stopDisplay (s : State) : State :=
  s.setFollower { s.follower with display := .stopped, timeoutArmed := false }

/-- The expiry of the frame timeout, its takers in a given order (R26). -/
def timeoutExpiresIn (order : List EventTaker) (s : State) : State :=
  order.foldl stoppedAt (stopDisplay s)

/-- The expiry of the frame timeout, its takers in a free order (R26, assumption log 2). -/
def timeoutExpires (s : State) : State :=
  timeoutExpiresIn (permute (drawn s) [.follower, .gate, .tracker]) (afterDraw s)

end Sys2Proof.Machine
end

