-- ==== Sys2Proof/Machine/Follower.lean ====
section
/-! DEFINITION. The Order Follower (01_display_orders_and_the_order_follower.md): address check, resync,
delayed transfers, Context Stack, Fetch History and hand-offs. -/

namespace Sys2Proof.Machine

/-- The decode context of a fetch (R25). `operand` is 0 for an order word and k for operand word k. -/
structure DecodeContext where
  followed : Bool
  addr : Addr
  order : Order
  operand : Nat
  name : Name
  path : List Name
  deriving DecidableEq, Repr

/-! ### Context Stack (R16 to R20) -/

/-- The current name of the innermost level (R16). -/
def innermostName (f : Follower) : Name :=
  match f.pushed.getLast? with
  | some l => l.name
  | none => f.rootName

/-- The levels outside the outermost opaque level (R20). -/
def visibleLevels (f : Follower) : List Level := f.pushed.takeWhile (fun l => !l.opaqueCall)

/-- The path: the names from level 0 to the reported level (R20). -/
def pathNow (f : Follower) : List Name := f.rootName :: (visibleLevels f).map (·.name)

/-- The effective name: the last name of the path (R20). -/
def nameNow (f : Follower) : Name := (pathNow f).getLastD f.rootName

/-- A name change at the last of a list of levels. -/
def renameLast (n : Name) : List Level → List Level
  | [] => []
  | [l] => [{ l with name := n }]
  | l :: m => l :: renameLast n m

/-- A NAME applied to the innermost level (R19). -/
def Follower.applyName (f : Follower) (n : Name) : Follower :=
  match f.pushed with
  | [] => { f with rootName := n }
  | _ :: _ => { f with pushed := renameLast n f.pushed }

/-- A pending transfer carried out; `next` is the address after the slot order's last word (R11, R17,
R18). -/
def Follower.carryOut (f : Follower) (t : Transfer) (next : Addr) : Follower :=
  match t with
  | .jump target => { f with transfer := none, expected := some target }
  | .call target hides =>
    { f with
      transfer := none, expected := some target
      pushed := f.pushed ++ [{ name := innermostName f, returnAddr := next, opaqueCall := hides }] }
  | .ret =>
    { f with
      transfer := none, expected := f.pushed.getLast?.map (·.returnAddr) <|> some next
      pushed := f.pushed.dropLast }

/-- The context emptied to level 0 with name 0, no transfer and no order in progress (R7, R9, R13). -/
def Follower.emptied (f : Follower) : Follower :=
  { f with rootName := 0, pushed := [], transfer := none, inProgress := none }

/-! ### Loss and search (R6, R8, R9) -/

/-- Entry to LOST with its cause, at the fetch of an address (R9). -/
def enterLost (cause : Condition) (a : Addr) (s : State) : State :=
  let s := s.setFollower { s.follower.emptied with
    follow := .lost, resync := none, expected := none, history := [] }
  requestReport (conditionReport cause (some a) none s) s

/-- A fetch in WAITING or LOST that is not the resync: the candidate it leaves (R6). -/
def searchFetch (w : Word) (s : State) : State :=
  s.setFollower { s.follower with
    resync := match decodeOrder w with
      | .restart t => some t
      | _ => none }

/-- The resync (R7). -/
def resyncAt (a : Addr) (s : State) : State :=
  frameEnd a (s.setFollower { s.follower.emptied with
    follow := .following, resync := none, expected := none })

/-! ### Fetch History (R21, R22) -/

/-- An entry appended as the newest, the oldest beyond 16 removed (R21). -/
def appendHistory (h : List HistoryEntry) (e : HistoryEntry) : List HistoryEntry :=
  (h ++ [e]).drop (h.length + 1 - 16)

/-- The kind of a visible order, if it is one (R3, R21). -/
def visibleKind : Order → Option VisibleKind
  | .line => some .line
  | .dot => some .dot
  | .step v => if v then some .step else none
  | .text _ n => if n = 0 then none else some .text
  | _ => none

/-- Whether a TEXT fetched under the current effective name is a menu text (R21). -/
def menuNow (o : Order) (s : State) : Bool :=
  match o with
  | .text _ n => n != 0 && (attributesOf s (nameNow s.follower)).classPart.isMenu
  | _ => false

/-- The TEXT part of a new entry (R21). -/
def textPartOf (o : Order) (s : State) : Option TextPart :=
  match o with
  | .text size n =>
    some { startX := s.pins.defx, pitch := pitchOf size, count := n, fetched := 0, menu := menuNow o s }
  | _ => none

/-- A new Fetch History entry (R21). -/
def newEntry (a : Addr) (k : VisibleKind) (o : Order) (s : State) : HistoryEntry :=
  { addr := a, kind := k, fetchTime := s.time, name := nameNow s.follower, path := pathNow s.follower,
    edited := false, text := textPartOf o s }

/-- The Fetch History entry of a visible order (R21). -/
def recordVisible (a : Addr) (o : Order) (s : State) : State :=
  match visibleKind o with
  | none => s
  | some k =>
    s.setFollower { s.follower with
      history := appendHistory s.follower.history (newEntry a k o s) }

/-- Three more characters fetched, held at the count (R21). -/
def HistoryEntry.fetchChars (e : HistoryEntry) : HistoryEntry :=
  { e with text := e.text.map (fun t => { t with fetched := min t.count (t.fetched + 3) }) }

/-- A change of the newest entry. -/
def mapNewest (f : HistoryEntry → HistoryEntry) : List HistoryEntry → List HistoryEntry
  | [] => []
  | [e] => [f e]
  | e :: l => e :: mapNewest f l

/-- The operand word of a TEXT in the history: the newest entry is that TEXT's (R21). -/
def recordChars (p : InProgress) (s : State) : State :=
  match visibleKind p.order with
  | some .text =>
    s.setFollower { s.follower with
      history := mapNewest HistoryEntry.fetchChars s.follower.history }
  | _ => s

/-- How many words an entry's order occupies (R22). -/
def HistoryEntry.words (e : HistoryEntry) : Nat :=
  match e.text with
  | some t => 1 + (t.count + 2) / 3
  | none => 1

/-- An entry after a P-write notice (R22). -/
def HistoryEntry.noticed (a : Addr) (e : HistoryEntry) : HistoryEntry :=
  if inSpan a e.addr e.words then { e with edited := true } else e

/-- A P-write notice at the Order Follower (R22). -/
def historyNotice (a : Addr) (s : State) : State :=
  s.setFollower { s.follower with history := s.follower.history.map (HistoryEntry.noticed a) }

/-! ### Hand-offs (R24, R25) -/

/-- The order-word hand-offs: MOVE to the Tracking Unit, a menu TEXT to the Menu Map (R25, R94, R142). -/
def handOrderWord (a : Addr) (w : Word) (o : Order) (s : State) : State :=
  match o with
  | .move _ _ => trackMove a w (nameNow s.follower) s
  | .text _ n =>
    if menuNow o s then
      let name := nameNow s.follower
      s.setMenuMap (menuStart
        (MenuEntry.start a name n (attributesOf s name).classPart.separator) s.menuMap)
    else s
  | _ => s

/-- The operand-word hand-off of a menu TEXT (R25, R95). -/
def handOperand (p : InProgress) (w : Word) (s : State) : State :=
  if p.menu then s.setMenuMap (menuOperand p.addr (3 * (p.fetched - 1)) w s.menuMap) else s

/-- What an order does at its last word besides its transfer: a NAME applied, then a PASS handed over (R19,
R24). -/
def applyOrder (start : Addr) (o : Order) (ws : List Word) (s : State) : State :=
  match o with
  | .pass e subtype payload =>
    handOff start e subtype payload ws
      (if subtype = 1 then s.setFollower (s.follower.applyName payload) else s)
  | _ => s

/-- The last word of an order: its own effect, the pending transfer carried out, and the next fetch expected
(R11, R24). -/
def completeOrder (start : Addr) (o : Order) (ws : List Word) (last : Addr) (s : State) : State :=
  let s := applyOrder start o ws s
  let next := Addr.plus last 1
  match s.follower.transfer with
  | some t => s.setFollower (s.follower.carryOut t next)
  | none => s.setFollower { s.follower with expected := some next }

/-! ### Fetches in FOLLOWING -/

/-- The transfer an order word asks for (R10). -/
def transferOf : Order → Option Transfer
  | .jump t => some (.jump t)
  | .call t hides => some (.call t hides)
  | .ret => some .ret
  | _ => none

/-- Whether a transfer order would overflow or underflow the call stack (R17, R18). -/
def transferFault (f : Follower) : Transfer → Option Condition
  | .call _ _ => if f.pushed.length = 7 then some .stackOverflow else none
  | .ret => if f.pushed = [] then some .stackUnderflow else none
  | .jump _ => none

/-- The record of an order with operands (R5). -/
def openOrder (a : Addr) (w : Word) (o : Order) (s : State) : InProgress :=
  { addr := a, order := o, words := o.words, fetched := 1, stored := [w], name := nameNow s.follower,
    path := pathNow s.follower, menu := menuNow o s }

/-- An order word that is neither a RESTART nor a transfer taken up: its entry and hand-offs, and its
completion or its record (R5, R11, R21, R25). -/
def followOrder (a : Addr) (w : Word) (o : Order) (s : State) : State :=
  let p := openOrder a w o s
  let s := handOrderWord a w o (recordVisible a o s)
  if o.words = 1 then completeOrder a o [w] a s
  else s.setFollower { s.follower with inProgress := some p, expected := some (Addr.plus a 1) }

/-- A RESTART decoded in FOLLOWING (R13). -/
def followRestart (a target : Addr) (s : State) : State :=
  frameEnd a (s.setFollower { s.follower.emptied with expected := some target })

/-- The context of an order word (R25). -/
def orderContext (a : Addr) (o : Order) (s : State) : DecodeContext :=
  { followed := true, addr := a, order := o, operand := 0, name := nameNow s.follower,
    path := pathNow s.follower }

/-- A fetch in WAITING or LOST, or one that causes LOST, as the Echo Unit is offered it (R6, R25). -/
def unfollowedContext (a : Addr) (w : Word) : DecodeContext :=
  { followed := false, addr := a, order := decodeOrder w, operand := 0, name := 0, path := [0] }

/-- An order word fetched at the expected address (R8 to R13). -/
def fetchOrderWord (a : Addr) (w : Word) (s : State) : State × DecodeContext :=
  let o := decodeOrder w
  let ctx := orderContext a o s
  match o with
  | .restart target => (followRestart a target s, ctx)
  | _ =>
    match transferOf o, s.follower.transfer with
    | some t, none =>
      match transferFault s.follower t with
      | some cause => (enterLost cause a s, unfollowedContext a w)
      | none =>
        (s.setFollower { s.follower with
          transfer := some t, expected := some (Addr.plus a 1) }, ctx)
    | _, _ => (followOrder a w o s, ctx)

/-- An operand word fetched at the expected address (R4, R5). -/
def fetchOperandWord (p : InProgress) (a : Addr) (w : Word) (s : State) : State × DecodeContext :=
  let ctx : DecodeContext :=
    { followed := true, addr := p.addr, order := p.order, operand := p.fetched, name := p.name,
      path := p.path }
  let s := handOperand p w (recordChars p s)
  if p.fetched + 1 = p.words then
    (completeOrder p.addr p.order (p.stored ++ [w]) a
      (s.setFollower { s.follower with inProgress := none }), ctx)
  else
    (s.setFollower { s.follower with
      inProgress := some { p with fetched := p.fetched + 1, stored := p.stored ++ [w] }
      expected := some (Addr.plus a 1) }, ctx)

/-- A D-read at the Order Follower: its account and the decode context it offers (R3, R6, R8). DESIGN CHOICE
(assumption log 21): the fetch that completes a resync is offered as followed, since the follow state is FOLLOWING once
its address has been checked (R25), so that the Echo Unit examines it (R171). -/
def followFetch (a : Addr) (w : Word) (s : State) : State × DecodeContext :=
  match s.follower.follow with
  | .following =>
    if s.follower.expected = some a then
      match s.follower.inProgress with
      | none => fetchOrderWord a w s
      | some p => fetchOperandWord p a w s
    else (searchFetch w (enterLost .decodeLost a s), unfollowedContext a w)
  | .waiting | .lost =>
    if s.follower.resync = some a then fetchOrderWord a w (resyncAt a s)
    else (searchFetch w s, unfollowedContext a w)

end Sys2Proof.Machine
end

