-- ==== Sys2Proof/Machine/Echo.lean ====
section
/-! DEFINITION. The Echo Unit's delivered word (10_echo_in_passage.md). -/

namespace Sys2Proof.Machine

/-- Whether the Echo Unit examines a D-read (R171). -/
def examined (ctx : DecodeContext) (s : State) : Bool :=
  ctx.followed && s.follower.display == .running

/-- Whether a D-read is judged under the echo records: an examined ATTR, or a TEXT's operand word (R175, R177). -/
def judged (ctx : DecodeContext) (s : State) : Bool :=
  examined ctx s &&
    match ctx.order with
    | .attr => ctx.operand == 0
    | .text _ _ => ctx.operand != 0
    | _ => false

/-! ### ATTR and MOVE words -/

/-- The intensity of an ATTR word under a highlight (R175). -/
def highlightIntensity (h : Highlight) (boost : Nat) (i : BitVec 4) : BitVec 4 :=
  match h with
  | .none | .blink => i
  | .bright => BitVec.ofNat 4 (min 15 (i.toNat + boost))
  | .dim => BitVec.ofNat 4 (max 1 (i.toNat - boost))

/-- An ATTR order word as delivered (R175). -/
def deliverAttr (ctx : DecodeContext) (w : Word) (s : State) : Word :=
  if s.echo.picked = some ctx.name then
    let a := attributesOf s ctx.name
    withBlinkIntensity w (flagAt w 4 || a.highlight == .blink)
      (highlightIntensity a.highlight a.boost (bitsAt w 0 4))
  else w

/-- A MOVE order word as delivered (R178). -/
def deliverMove (ctx : DecodeContext) (w : Word) (s : State) : Word :=
  if s.tracker.runs && s.tracker.cross.any (fun c => c.addr == ctx.addr) &&
      ctx.name == s.tracker.active.crossName then
    withXY w s.tracker.tx s.tracker.ty
  else w

/-! ### TEXT words -/

/-- Whether the readout list lets a TEXT be the readout of its name (R179). -/
def readoutListed (l : List (Name × Addr)) (n : Name) (a : Addr) : Bool :=
  match l.find? (fun x => x.1 == n) with
  | some x => x.2 == a
  | none => l.length < 8

/-- The Echo Unit's records at an examined TEXT order word (R179). -/
def openText (a : Addr) (count : Nat) (n : Name) (s : State) : State :=
  let flag := count != 0 && (attributesOf s n).classPart.isReadout && readoutListed s.echo.readouts n a
  let listed := s.echo.readouts.any (fun x => x.1 == n)
  s.setEcho { s.echo with
    text := some { addr := a, count := count, name := n, readout := flag }
    readouts := if flag && !listed then s.echo.readouts ++ [(n, a)] else s.echo.readouts }

/-- Whether an index lies within an item. -/
def withinItem (start length i : Nat) : Bool := start ≤ i && i < start + length

/-- Whether the character at an index of a text is emphasised (R177). -/
def emphasised (t : TextRecord) (i : Nat) (s : State) : Bool :=
  i < t.count &&
  (s.gate.hover.any (fun h => h.item.textAddr == t.addr && withinItem h.item.start h.item.length i) ||
   s.echo.item.any (fun e => e.textAddr == t.addr && withinItem e.start e.length i))

/-- A character as delivered: a readout's glyph in place of the stored one, and emphasis never cleared
(R172, R177, R180). -/
def deliverChar (t : TextRecord) (i : Nat) (c : BitVec 8) (glyph : Option Glyph) (s : State) : BitVec 8 :=
  makeChar (emphasisOf c || emphasised t i s) (glyph.getD (glyphOf c))

/-- The readout string held for an operand word of a readout text (R132, R180). -/
def readoutAnswer (t : TextRecord) (j : Nat) (s : State) : ReadoutString :=
  readoutFor (attributesOf s t.name).classPart.readoutPart t.addr t.count j s

/-- A TEXT operand word as delivered (R172, R177, R180); `answer` gives a readout glyph for an index. -/
def deliverText (t : TextRecord) (j : Nat) (w : Word) (answer : Nat → Option Glyph) (s : State) : Word :=
  makeTextWord (deliverChar t j (charAt w 0) (answer j) s)
    (deliverChar t (j + 1) (charAt w 1) (answer (j + 1)) s)
    (deliverChar t (j + 2) (charAt w 2) (answer (j + 2)) s)

/-- An examined TEXT operand word: the word to deliver, and the readout string it leaves (R177, R180). -/
def deliverOperand (ctx : DecodeContext) (w : Word) (s : State) : Word × State :=
  match s.echo.text with
  | none => (w, s)
  | some t =>
    if t.addr ≠ ctx.addr then (w, s)
    else
      let j := 3 * (ctx.operand - 1)
      if t.readout then
        let r := readoutAnswer t j s
        (deliverText t j w (fun i => (r.entries[i]?).join) s,
          s.setLoft { s.loft with readout := some r })
      else (deliverText t j w (fun _ => none) s, s)

/-- An examined order word that is no TEXT: the text record becomes absent (R179). -/
def closeText (s : State) : State := s.setEcho { s.echo with text := none }

/-- An examined order word (R171, R175, R178, R179). -/
def deliverOrderWord (ctx : DecodeContext) (w : Word) (s : State) : Word × State :=
  match ctx.order with
  | .text _ n => (w, openText ctx.addr n ctx.name s)
  | .attr => (deliverAttr ctx w s, closeText s)
  | .move _ _ => (deliverMove ctx w s, closeText s)
  | _ => (w, closeText s)

/-- The word to deliver for a D-read, and the state the Echo Unit leaves (R171). -/
def deliver (ctx : DecodeContext) (w : Word) (s : State) : Word × State :=
  if examined ctx s then
    if ctx.operand = 0 then deliverOrderWord ctx w s
    else
      match ctx.order with
      | .text _ _ => deliverOperand ctx w s
      | _ => (w, s)
  else (w, s)

end Sys2Proof.Machine
end

