-- ==== Sys2Proof/Machine/Passage.lean ====
section
/-! DEFINITION. The Store Passage (09_the_store_passage.md): bus cycles, notices, the lock, the arbiter and
the part's own cycles. -/

namespace Sys2Proof.Machine

/-! ### Notices (R161, R162)

A watcher takes its notices in the order in which they were given, each within the microsecond of its P-write; how
many of them each has taken by the next event is free (assumption logs 2 and 8). -/

/-- The Order Follower takes its oldest notices (R22). -/
def followerTakes (n : Nat) (s : State) : State :=
  let q := s.passage.notices.follower
  takeOldest n q (fun x => historyNotice x.addr) (s.setNotices { s.passage.notices with follower := q.drop n })

/-- A P-write notice at the Menu Map, its invalidation notices handed to the Gate Unit (R97). -/
def menuNotice (a : Addr) (s : State) : State :=
  (s.setMenuMap (menuInvalidate a s.menuMap)).setNotices
    { s.passage.notices with gate := s.passage.notices.gate ++ invalidatedTexts a s.menuMap }

/-- The Menu Map takes its oldest notices. -/
def menuTakes (n : Nat) (s : State) : State :=
  let q := s.passage.notices.menuMap
  takeOldest n q (fun x => menuNotice x.addr) (s.setNotices { s.passage.notices with menuMap := q.drop n })

/-- The Gate Unit takes its oldest invalidation notices (R106). -/
def gateTakes (n : Nat) (s : State) : State :=
  let q := s.passage.notices.gate
  takeOldest n q gateInvalidated (s.setNotices { s.passage.notices with gate := q.drop n })

/-- The Pass Decoder takes its oldest notices (R44). -/
def passTakes (n : Nat) (s : State) : State :=
  let q := s.passage.notices.pass
  takeOldest n q (fun x => passNotice x.addr) (s.setNotices { s.passage.notices with pass := q.drop n })

/-- The Tracking Unit takes its oldest notices (R143, R153). -/
def trackerTakes (n : Nat) (s : State) : State :=
  let q := s.passage.notices.tracker
  takeOldest n q (fun x => trackNotice x.addr) (s.setNotices { s.passage.notices with tracker := q.drop n })

/-- The Report Writer takes its oldest notices (R194). -/
def reportsTakes (n : Nat) (s : State) : State :=
  let q := s.passage.notices.reports
  takeOldest n q (fun x => reportsNotice x.addr x.data) (s.setNotices { s.passage.notices with reports := q.drop n })

/-- A completed locked pair releases the lock once every watcher has taken its notice (R160). R161 names five watchers;
that the lock is held also until the Gate Unit has taken the invalidation notices that the Menu Map has made of it (R97)
is the model's choice, assumption log 8. -/
def endPair (s : State) : State :=
  if s.passage.pairWritten && s.passage.notices == .none then
    s.setPassage { s.passage with lockHeld := false, pairWritten := false }
  else s

/-- The watchers take some of the notices being taken, each a free number of its own. -/
def meetNotices (s : State) : State :=
  if s.passage.notices = .none then s
  else
    let s := takeSome s.passage.notices.follower.length followerTakes s
    let s := takeSome s.passage.notices.menuMap.length menuTakes s
    let s := takeSome s.passage.notices.gate.length gateTakes s
    let s := takeSome s.passage.notices.pass.length passTakes s
    let s := takeSome s.passage.notices.tracker.length trackerTakes s
    endPair (takeSome s.passage.notices.reports.length reportsTakes s)

/-- The watchers take every notice being taken. -/
def settleNotices (s : State) : State :=
  if s.passage.notices = .none then s
  else
    let s := followerTakes s.passage.notices.follower.length s
    let s := menuTakes s.passage.notices.menuMap.length s
    let s := gateTakes s.passage.notices.gate.length s
    let s := passTakes s.passage.notices.pass.length s
    let s := trackerTakes s.passage.notices.tracker.length s
    endPair (reportsTakes s.passage.notices.reports.length s)

/-- A notice joined to those being taken. -/
def Notices.offer (n : Notices) (x : Notice) : Notices :=
  { n with
    follower := n.follower ++ [x], menuMap := n.menuMap ++ [x], pass := n.pass ++ [x]
    tracker := n.tracker ++ [x], reports := n.reports ++ [x] }

/-- What stands between an event and those before it: the watchers take some of the notices being taken, and the two
receivers some of the strike results handed on (assumption logs 8 and 25). -/
def meet (s : State) : State := meetResults (meetNotices s)

/-- The notice of a P-write, offered to its five watchers (R161). -/
def giveNotice (a : Addr) (data : Word) (s : State) : State :=
  meetNotices (s.setNotices (s.passage.notices.offer { addr := a, data := data }))

/-! ### Passing cycles once granted (R157 to R161) -/

/-- A granted D-read: followed, decoded, and delivered as the Echo Unit chooses (R159). A word judged under the echo
records shows that their requests have been taken (R183). -/
def carryDRead (a : Addr) (x y : Coord) (s : State) : State :=
  let w := s.word a
  let f := followFetch a w (arrayRead a (presentBeam x y s))
  let d := deliver f.2 w f.1
  driveBD d.1 (if judged f.2 f.1 then settleEcho d.2 else d.2)

/-- A granted P-read (R158). -/
def carryPRead (a : Addr) (s : State) : State := driveBD (s.word a) (arrayRead a s)

/-- A granted P-write, with its notice (R158, R161). -/
def carryPWrite (a : Addr) (data : Word) (s : State) : State := giveNotice a data (arrayWrite a data s)

/-- The lock set or released (R160). -/
def setLock (held : Bool) (s : State) : State :=
  s.setPassage { s.passage with lockHeld := held, pairWritten := false }

/-- The locked P-write of a held lock completes its pair; a released lock it leaves released (R160). -/
def closePair (s : State) : State := s.setPassage { s.passage with pairWritten := s.passage.lockHeld }

/-- A bus cycle carried through the part (R157, R160). -/
def carry (c : BusCycle) (s : State) : State :=
  match c with
  | .dRead a x y => carryDRead a x y s
  | .pRead a => carryPRead a s
  | .pWrite a d => carryPWrite a d s
  | .lockedPRead a => carryPRead a (setLock true s)
  | .lockedPWrite a d => carryPWrite a d (closePair s)
  | .idle => s

/-! ### The arbiter (R165 to R168) -/

/-- Whether the port is free: no own cycle in progress, and no power-up reset in force (R165, R169). -/
def portFree (s : State) : Bool := s.passage.port.isNone && !s.passage.resetInForce

/-- Whether an own cycle may be granted at a free port (R165): the lock is released, and no notice is still being
taken (R162). R162 names five watchers; that the grant is held also until the Gate Unit has taken the invalidation
notices that the Menu Map has made of them (R97) is the model's choice, assumption log 8. -/
def ownMayBeGranted (s : State) : Bool := portFree s && !s.passage.lockHeld && s.passage.notices == .none

/-- The address and word of an own cycle at the array side. -/
def OwnCycle.addr : OwnCycle → Addr
  | .consumption a _ | .writeBack a _ | .claim a | .fill a _ | .owner a _ => a

/-- The pins of the array side while an own cycle is in progress (R164). -/
def OwnCycle.pins (c : OwnCycle) (p : Pins) : Pins :=
  match c with
  | .claim a => { p with ma := a, mcyc := .read }
  | .consumption a w | .writeBack a w | .fill a w | .owner a w => { p with ma := a, md := w, mcyc := .write }

/-- The write-back marked as the cycle in progress (R163); a claim read shows that its report has been requested. -/
def markGranted (c : OwnCycle) (s : State) : State :=
  match c with
  | .writeBack _ _ =>
    s.setTracker { s.tracker with
      writeBack := s.tracker.writeBack.map (fun b => { b with granted := true }) }
  | .claim _ => settleReports s
  | .consumption _ _ | .fill _ _ | .owner _ _ => s

/-- The grant of an own cycle (R164, R166). -/
def startOwn (c : OwnCycle) (s : State) : State :=
  let s := markGranted c s
  (s.setPassage { s.passage with port := some c, fairShare := 0 }).setPins (c.pins s.pins)

/-- The grant of the first outstanding own request in the order of R167; nothing when there is none. -/
def grantOwn (s : State) : State :=
  match ownRequests s with
  | [] => s
  | c :: _ => startOwn c s

/-- The fair-share count at a passing grant made while a set of own requests is outstanding (R166). -/
def countPassing (outstanding : List OwnCycle) (s : State) : State :=
  if outstanding = [] then s
  else s.setPassage { s.passage with fairShare := min 8 (s.passage.fairShare + 1) }

/-- Whether a presented passing cycle is passed over for an own cycle (R165). -/
def ownTurn (s : State) : Bool :=
  8 ≤ s.passage.fairShare && !(ownRequests s).isEmpty && ownMayBeGranted s

/-- The lock when a cycle is presented: any cycle but a locked P-write breaks a pair (R160). -/
def breakLock (c : BusCycle) (s : State) : State :=
  match c with
  | .lockedPWrite _ _ => s
  | _ => setLock false s

/-- The cycles not yet carried, the presented one first, with BWAIT asserted while there is one (R157). -/
def hold (l : List BusCycle) (s : State) : State :=
  (s.setPassage { s.passage with held := l }).setPins { s.pins with bwait := !l.isEmpty }

/-- The bus's cycles, presented one after another: each is carried when the port is free and the arbiter
grants it, and from the first that must wait they are held in BWAIT. An idle cycle needs no grant (R157, R165,
R166). -/
def serveBus : List BusCycle → State → State
  | [], s => hold [] s
  | .idle :: l, s => serveBus l (setLock false s)
  | c :: l, s =>
    if portFree s then
      let s := meet (breakLock c s)
      if ownTurn s then hold (c :: l) (grantOwn s)
      else serveBus l (carry c (countPassing (ownRequests s) s))
    else hold (c :: l) s

/-- A cycle the bus presents; behind one still held it is the bus's next cycle (R157). -/
def present (c : BusCycle) (s : State) : State := serveBus (s.passage.held ++ [c]) s

/-! ### Own cycles completed (R164) -/

/-- The bus served at the fall of the port, the presented cycle's grant counted against a given set of own
requests: the Report Writer's next offer may be taken before that grant or after it (R165, R166, R168). Some of the
strike results handed on are taken before the cycle is carried (assumption log 25). -/
def serveCounting (outstanding : List OwnCycle) : List BusCycle → State → State
  | [], s => serveBus [] s
  | .idle :: l, s => serveBus (.idle :: l) s
  | c :: l, s =>
    if portFree s then serveBus l (carry c (meetResults (countPassing outstanding (breakLock c s))))
    else hold (c :: l) s

/-- The port fallen free after a cycle of the Pass Decoder or the Tracking Unit, and the bus served (R165). -/
def freePort (s : State) : State :=
  let s := s.setPassage { s.passage with port := none }
  serveCounting (ownRequests s) s.passage.held s

/-- The requests outstanding beside the write-out's own (R163). -/
def otherRequests (s : State) : List OwnCycle :=
  s.pass.consumption.map (fun c => .consumption c.addr (consumptionWord c.extra)) ++
    (writeBackRequest s.tracker).toList

/-- The port fallen free after a cycle of the write-out, whose next request is offered before the grant of a
presented cycle when `offerFirst`, and after it otherwise (R165, R168). -/
def freePortOffering (offerFirst : Bool) (s : State) : State :=
  let s := s.setPassage { s.passage with port := none }
  serveCounting (if offerFirst then ownRequests s else otherRequests s) s.passage.held s

/-- The same, in a free order (assumption log 2). -/
def freePortWriteOut (s : State) : State := freePortOffering (drawn s % 2 == 0) (afterDraw s)

/-- A consumption write placed (R45, R164). -/
def consumptionPlaced (a : Addr) (w : Word) (s : State) : State :=
  freePort (consumptionAnswered a (arrayWrite a w s))

/-- A write-back placed (R153, R164). -/
def writeBackPlaced (a : Addr) (w : Word) (s : State) : State :=
  freePort (writeBackAnswered (arrayWrite a w s))

/-- A claim read completed (R164, R190). -/
def claimCompleted (a : Addr) (s : State) : State :=
  freePortWriteOut (claimAnswered a (s.word a) (arrayRead a s))

/-- A fill write placed (R164, R192). -/
def fillPlaced (a : Addr) (w : Word) (s : State) : State := freePortWriteOut (fillAnswered (arrayWrite a w s))

/-- An owner-word write placed (R164, R192). -/
def ownerPlaced (a : Addr) (w : Word) (s : State) : State := freePortWriteOut (ownerAnswered (arrayWrite a w s))

/-! ### Meanings of the bus's commands -/

/-- D_READ (R159). -/
def execDRead (ba : Addr) (defx defy : Coord) (s : State) : Result := .next (present (.dRead ba defx defy) s)

/-- P_READ (R158). -/
def execPRead (ba : Addr) (s : State) : Result := .next (present (.pRead ba) s)

/-- P_WRITE (R161). -/
def execPWrite (ba : Addr) (bd : Word) (s : State) : Result := .next (present (.pWrite ba bd) s)

/-- LOCKED_P_READ (R160). -/
def execLockedPRead (ba : Addr) (s : State) : Result := .next (present (.lockedPRead ba) s)

/-- LOCKED_P_WRITE (R160). -/
def execLockedPWrite (ba : Addr) (bd : Word) (s : State) : Result := .next (present (.lockedPWrite ba bd) s)

/-- IDLE_CYCLE (R160): an idle cycle behind a held one is presented after it. -/
def execIdleCycle (s : State) : Result := .next (present .idle s)

/-! ### Meanings of the port's commands -/

/-- OWN_CYCLE_GRANT (R162, R165): the watchers have taken every notice by then. No effect unless an own cycle may be
granted then, with no cycle presented or with the count at 8. -/
def execOwnCycleGrant (s : State) : Result :=
  let t := settleNotices s
  .next (if ownMayBeGranted t && (t.passage.held.isEmpty || 8 ≤ t.passage.fairShare) && !(ownRequests t).isEmpty
    then grantOwn t else s)

/-- CONSUMPTION_WRITE_PLACED (R45): no effect unless a consumption write is in progress. -/
def execConsumptionWritePlaced (s : State) : Result :=
  .next (match s.passage.port with
    | some (.consumption a w) => consumptionPlaced a w s
    | _ => s)

/-- WRITE_BACK_PLACED (R153): no effect unless a write-back is in progress. -/
def execWriteBackPlaced (s : State) : Result :=
  .next (match s.passage.port with
    | some (.writeBack a w) => writeBackPlaced a w s
    | _ => s)

/-- CLAIM_READ_COMPLETE (R190): no effect unless a claim read is in progress. -/
def execClaimReadComplete (s : State) : Result :=
  .next (match s.passage.port with
    | some (.claim a) => claimCompleted a s
    | _ => s)

/-- FILL_WRITE_PLACED (R192): no effect unless a fill write is in progress. -/
def execFillWritePlaced (s : State) : Result :=
  .next (match s.passage.port with
    | some (.fill a w) => fillPlaced a w s
    | _ => s)

/-- OWNER_WORD_WRITE_PLACED (R192): no effect unless the owner-word write is in progress. -/
def execOwnerWordWritePlaced (s : State) : Result :=
  .next (match s.passage.port with
    | some (.owner a w) => ownerPlaced a w s
    | _ => s)

end Sys2Proof.Machine
end

