-- ==== Sys2Proof/Machine/Events.lean ====
section
/-! DEFINITION. The meanings of the pen's commands and of the part's own expiries and counts. A command whose
condition does not hold stands for an event that does not occur, and changes nothing (assumption log 6). An event finds
some of the notices being taken, and some of the strike results handed on, already taken (R162, assumption logs 8 and
25). -/

namespace Sys2Proof.Machine

/-- PHOTO_EDGE (R66). -/
def execPhotoEdge (defx defy : Coord) (s : State) : Result :=
  .next (photoChange (presentBeam defx defy (meet s)))

/-- REPETITION_INTERVAL_EXPIRY (R67): no effect unless the interval has expired. -/
def execRepetitionIntervalExpiry (defx defy : Coord) (s : State) : Result :=
  .next (if repetitionDue s then repetitionExpires (presentBeam defx defy (meet s))
    else presentBeam defx defy s)

/-- LAST_STRIKE_RECORD_DISCARD (R69): no effect unless the record is 63 µs old. -/
def execLastStrikeRecordDiscard (s : State) : Result := .next (if discardDue s then discardRecord s else s)

/-- PINH_CHANGE (R72, R73). -/
def execPinhChange (s : State) : Result := .next (pinhChanges s)

/-- TIP_CHANGE (R74). -/
def execTipChange (s : State) : Result := .next (tipChanges s)

/-- DEBOUNCE_EXPIRY (R74, R75): no effect unless the interval has expired. -/
def execDebounceExpiry (s : State) : Result := .next (if debounceDue s then debounceExpires (meet s) else s)

/-- FRAME_TIMEOUT_EXPIRY (R26): no effect unless the timeout has expired. -/
def execFrameTimeoutExpiry (s : State) : Result :=
  .next (if timeoutDue s then timeoutExpires (meet s) else s)

/-- GATE_CLOSE_BY_LENGTH (R108): no effect unless the frame count of an OPEN gate has reached the L it was
compared with. -/
def execGateCloseByLength (s : State) : Result :=
  .next (if s.gate.gate.any (fun g => g.comparedLength ≤ g.frameCount) then closeByLength (meet s) else s)

/-- DWELL_REPORT (R115): no effect unless the count of an unspent key has reached the D it was compared
with. -/
def execDwellReport (s : State) : Result :=
  .next (if s.gate.dwell.comparedDwell ≤ s.gate.dwell.count then dwellReport (meet s) else s)

/-- TRACK_LOST (R149): no effect unless the loss count of a TRACKING run has reached the T it was compared
with. -/
def execTrackLost (s : State) : Result :=
  .next (if s.tracker.comparedLoss ≤ s.tracker.lossCount then goLost s.loft.active (meet s) else s)

/-- ITEM_ECHO_EXPIRY (R176): no effect unless the item echo's frame count is 0. -/
def execItemEchoExpiry (s : State) : Result := .next (itemEchoRunOut s)

/-! ### Time (R1) -/

/-- The part's own events that can be due at a moment. -/
inductive DueEvent where
  | repetition | discard | debounce | frameTimeout | ownGrant
  deriving DecidableEq, Repr

/-- Whether an event is due now. -/
def isDue (s : State) : DueEvent → Bool
  | .repetition => repetitionDue s
  | .discard => discardDue s
  | .debounce => debounceDue s
  | .frameTimeout => timeoutDue s
  | .ownGrant => ownMayBeGranted s && s.passage.held.isEmpty && !(ownRequests s).isEmpty

/-- The events due now. -/
def dueEvents (s : State) : List DueEvent :=
  [DueEvent.repetition, .discard, .debounce, .frameTimeout, .ownGrant].filter (isDue s)

/-- An event taken. -/
def takeDue (s : State) : DueEvent → State
  | .repetition => repetitionExpires s
  | .discard => discardRecord s
  | .debounce => debounceExpires s
  | .frameTimeout => timeoutExpires s
  | .ownGrant => grantOwn s

/-- One microsecond of TREF (R1). The notices, the changes and the requests of the microsecond that ends have been
taken by then, and the strike results of those before it (R68, R92, R162, R183, R199). -/
def tick (s : State) : State :=
  ((takeChanges (takeEarlierResults (settleNotices s))).setMoment .empty).setTime (s.time + 1)

/-- What happens while no command waits: the first of the events due now in a given order, or else one
microsecond (assumption log 5). -/
def idleIn (order : List DueEvent) (s : State) : State :=
  match order with
  | e :: _ => takeDue s e
  | [] => tick s

/-- The same, the events due at one moment in a free order. -/
def idle (s : State) : State :=
  let s := meet s
  match dueEvents s with
  | [] => tick s
  | l => idleIn (permute (drawn s) l) (afterDraw s)

end Sys2Proof.Machine
end

