-- ==== Sys2Proof/Machine/Reset.lean ====
section
/-! DEFINITION. Power-up, INIT, the end of the power-up reset, and the meanings of those commands
(R28, R29, R47, R48, R62 to R64, R77, R78, R99, R100, R120, R121, R138, R139, R155, R156, R169, R170, R182,
R183, R198, R199). -/

namespace Sys2Proof.Machine

/-- The debounce interval after a reset: started when the conditioned tip level is active (R77, R78). -/
def debounceAtReset (now : Time) (tipLevel : Bool) (tDB : Nat) : Option Interval :=
  if tipLevel then some (debounceFrom now tDB) else none

/-- The Pen Front End after power-up, the lines as found (R77). -/
def penPowerUp (pins : Pins) (now : Time) : Pen :=
  let a := PenSettings.powerUp
  let tipLevel := conditioned pins.tip a.tipInvert
  { active := a, shadow := none, photoLevel := conditioned pins.photo a.photoInvert, repetition := none,
    lastStrike := none, strikes := 0, inhibitLatch := false, followCopy := .waiting,
    displayCopy := .running, tipLevel := tipLevel, tip := .up,
    debounce := debounceAtReset now tipLevel a.tDB }

/-- Power-up of every block, with the straps as sampled; PURST is in force until POWER_UP_RESET_END. The store,
the input lines and the queue are no blocks of the part and stay. -/
def powerUpState (straps : BitVec 4) (s : State) : State :=
  { s with
    time := 0
    pins := { s.pins with bwait := false, mcyc := .idle }
    follower := Follower.reset 100 0
    pass := PassDecoder.reset straps
    segments := { entries := [], fullReported := false }
    pen := penPowerUp s.pins 0
    menuMap := []
    gate := GateUnit.reset .powerUp
    loft := LoftUnit.reset .powerUp
    tracker := Tracker.reset .powerUp 512 512
    echo := EchoUnit.reset
    reports := ReportWriter.powerUp
    passage := Passage.reset true
    handed := .none
    moment := .empty }

/-! ### INIT -/

/-- A Segment Table entry after INIT (R63). -/
def Segment.afterInit (e : Segment) : Segment :=
  { e with shadow := none, dropPending := false, lastSeen := 0 }

/-- The Pen Front End after INIT (R78). -/
def penInit (p : Pen) (pins : Pins) (now : Time) : Pen :=
  let photoLevel := conditioned pins.photo p.active.photoInvert
  let tipLevel := conditioned pins.tip p.active.tipInvert
  { active := p.active, shadow := none, photoLevel := photoLevel
    repetition := if p.active.edgeMode = .level ∧ photoLevel = true then
      some { since := now, length := p.active.tDT } else none
    lastStrike := p.lastStrike, strikes := 0, inhibitLatch := false, followCopy := .waiting,
    displayCopy := .running, tipLevel := tipLevel, tip := .up,
    debounce := debounceAtReset now tipLevel p.active.tDB }

/-- The Report Writer after INIT (R199). -/
def reportsInit (w : ReportWriter) : ReportWriter :=
  { w with
    shadow := none, deferral := false, slots := List.replicate w.slots.length .unknown, pointer := 0,
    sequence := 1, queue := [], gap := false, writeOut := none, attention := false }

/-- The own cycle in progress at an INIT, completed at the array (R170): a write is placed, and the word of a
read is discarded (R199). -/
def finishOwn (s : State) : State :=
  match s.passage.port with
  | none => s
  | some (.claim a) => arrayRead a s
  | some (.consumption a w) | some (.writeBack a w) | some (.fill a w) | some (.owner a w) => arrayWrite a w s

/-- INIT at every block, with the straps resampled (R29, R48, R63, R78, R100, R121, R139, R156, R170, R183,
R199). A strike result still to be taken is discarded (R121, R156). A bus cycle held in BWAIT stays presented. -/
def initState (straps : BitVec 4) (s : State) : State :=
  { s with
    follower := Follower.reset s.follower.tFT s.time
    pass := PassDecoder.reset straps
    segments := { entries := s.segments.entries.map Segment.afterInit, fullReported := false }
    pen := penInit s.pen s.pins s.time
    menuMap := []
    gate := GateUnit.reset s.gate.active
    loft := LoftUnit.reset s.loft.active
    tracker := Tracker.reset s.tracker.active s.tracker.tx s.tracker.ty
    echo := EchoUnit.reset
    reports := reportsInit s.reports
    passage := { s.passage with port := none, lockHeld := false, pairWritten := false, fairShare := 0 }
    handed := .none
    moment := .empty }

/-- The requests of the present moment that are taken after an INIT, the others before it: at each of the two units
those from some place of its order on (R183, R199, assumption log 22). A number picks the two places, every pair by
some number. -/
def Moment.afterInit (m : Moment) (c : Nat) : Moment :=
  { echo := m.echo.drop (c % (m.echo.length + 1))
    reports := m.reports.drop (c / (m.echo.length + 1) % (m.reports.length + 1)) }

/-- Requests taken by their units, in the order in which they were handed over. -/
def takeRequests (m : Moment) (s : State) : State :=
  m.reports.foldl (fun s r => requestReport r s) (m.echo.foldl (fun s r => takeEcho r s) s)

/-- INIT at every block, and the requests of its own moment that are taken after it, in a free order (R183, R199,
assumption log 2). -/
def initAmongRequests (straps : BitVec 4) (s : State) : State :=
  if s.moment = .empty then initState straps s
  else takeRequests (s.moment.afterInit (drawn s)) (afterDraw (initState straps s))

/-- The cycles held in BWAIT granted as the port falls free at an INIT. The claim read of a report request that
outlives the INIT is offered before that grant or after it (R168, assumption log 2). -/
def serveAfterInit (s : State) : State :=
  if s.passage.held = [] ∨ ownRequests s = [] then serveBus s.passage.held s
  else
    serveCounting (if drawn s % 2 == 0 then ownRequests s else otherRequests s) s.passage.held (afterDraw s)

/-- INIT: the array cycle in progress completed, every block reset, and a cycle held in BWAIT granted as the
port falls free (R170), before or after the offer of the claim of a request that outlives the INIT (R168, assumption
log 2). A notice being taken outlives it: a watcher that takes it after its own reset compares it with its reset
state (R170, assumption log 8). -/
def initPart (straps : BitVec 4) (s : State) : State := serveAfterInit (initAmongRequests straps (finishOwn s))

/-- PURST deasserted: a cycle held while it was in force is granted and carried (R169). -/
def endPowerUpReset (s : State) : State :=
  let s := s.setPassage { s.passage with resetInForce := false }
  serveBus s.passage.held s

/-! ### Meanings -/

/-- POWER_UP (R28, R47, R62, R77, R99, R120, R138, R155, R169, R182, R198). -/
def execPowerUp (straps : BitVec 4) (s : State) : Result := .next (powerUpState straps s)

/-- INIT (R170). -/
def execBusInit (straps : BitVec 4) (s : State) : Result := .next (initPart straps (meet s))

/-- POWER_UP_RESET_END (R169): no effect unless PURST is in force. -/
def execPowerUpResetEnd (s : State) : Result :=
  .next (if s.passage.resetInForce then endPowerUpReset s else s)

end Sys2Proof.Machine
end

