-- ==== Sys2Proof/Machine/Dispatch.lean ====
section
/-! DEFINITION. exec: one arm per command. -/

namespace Sys2Proof.Machine

def exec (i : Instr) (s : State) : Host.Outcome State Fault Refusal :=
  match i with
  | .powerUp straps => Sys2Proof.Machine.execPowerUp straps s
  | .busInit straps => Sys2Proof.Machine.execBusInit straps s
  | .dRead ba defx defy => Sys2Proof.Machine.execDRead ba defx defy s
  | .pRead ba => Sys2Proof.Machine.execPRead ba s
  | .pWrite ba bd => Sys2Proof.Machine.execPWrite ba bd s
  | .lockedPRead ba => Sys2Proof.Machine.execLockedPRead ba s
  | .lockedPWrite ba bd => Sys2Proof.Machine.execLockedPWrite ba bd s
  | .idleCycle => Sys2Proof.Machine.execIdleCycle s
  | .ownCycleGrant => Sys2Proof.Machine.execOwnCycleGrant s
  | .consumptionWritePlaced => Sys2Proof.Machine.execConsumptionWritePlaced s
  | .writeBackPlaced => Sys2Proof.Machine.execWriteBackPlaced s
  | .claimReadComplete => Sys2Proof.Machine.execClaimReadComplete s
  | .fillWritePlaced => Sys2Proof.Machine.execFillWritePlaced s
  | .ownerWordWritePlaced => Sys2Proof.Machine.execOwnerWordWritePlaced s
  | .photoEdge defx defy => Sys2Proof.Machine.execPhotoEdge defx defy s
  | .repetitionIntervalExpiry defx defy => Sys2Proof.Machine.execRepetitionIntervalExpiry defx defy s
  | .lastStrikeRecordDiscard => Sys2Proof.Machine.execLastStrikeRecordDiscard s
  | .pinhChange => Sys2Proof.Machine.execPinhChange s
  | .tipChange => Sys2Proof.Machine.execTipChange s
  | .debounceExpiry => Sys2Proof.Machine.execDebounceExpiry s
  | .frameTimeoutExpiry => Sys2Proof.Machine.execFrameTimeoutExpiry s
  | .gateCloseByLength => Sys2Proof.Machine.execGateCloseByLength s
  | .dwellReport => Sys2Proof.Machine.execDwellReport s
  | .trackLost => Sys2Proof.Machine.execTrackLost s
  | .itemEchoExpiry => Sys2Proof.Machine.execItemEchoExpiry s
  | .powerUpResetEnd => Sys2Proof.Machine.execPowerUpResetEnd s

end Sys2Proof.Machine
end

