-- ==== Sys2Proof/Safety.lean ====
section
/-! DEFINITION. What a sound state of each block is, in the manual's terms, and the terms the statements share:
when a passing cycle is granted and what the fair-share count becomes, a RESTART that is followed, and what the end of
a run and a decision leave. No command of this part stops a run, so that safety is the soundness of every block. -/

namespace Sys2Proof.Machine

/-! ### The bus and the arbiter -/

/-- Every watcher has taken every notice (R162). -/
abbrev NoticesTaken (s : State) : Prop := s.passage.notices = .none

/-- The Gate Unit and the Tracking Unit have taken every strike result and sighting handed on (R92). -/
abbrev ResultsTaken (s : State) : Prop := s.handed = .none

/-- No notice and no strike result is still to be taken. -/
abbrev Settled (s : State) : Prop := NoticesTaken s ∧ ResultsTaken s

/-- The port is free and the bus has no cycle waiting (R165, R169). -/
abbrev PortOpen (s : State) : Prop :=
  s.passage.port = none ∧ s.passage.resetInForce = false ∧ s.passage.held = []

/-- The same, with no notice and no strike result still to be taken (R92, R162). -/
abbrev BusFree (s : State) : Prop := PortOpen s ∧ Settled s

/-- A passing cycle presented now is granted at once: the first three rows of R165's table. -/
abbrev PassingGranted (s : State) : Prop :=
  BusFree s ∧ (s.passage.fairShare < 8 ∨ ownRequests s = [])

/-- The fair-share count once a passing cycle has been granted (R166). -/
def countAfterPassing (s : State) : Nat :=
  if ownRequests s = [] then s.passage.fairShare else min 8 (s.passage.fairShare + 1)

/-- The bus's commands that need a grant, each with the cycle it presents (R157, R165). -/
def passingCommands (a : Addr) (d : Word) (x y : Coord) : List (Instr × BusCycle) :=
  [(.dRead a x y, .dRead a x y), (.pRead a, .pRead a), (.pWrite a d, .pWrite a d), (.lockedPRead a, .lockedPRead a),
    (.lockedPWrite a d, .lockedPWrite a d)]

/-! ### Notices -/

/-- A watcher that has been offered one notice has taken it, and its part of the state is as when every watcher has, or
has still to take it, and its part is as before (R161, R162). -/
abbrev TakenOrPending {α β : Type} (queue : Notices → List α) (part : State → β) (x : α) (s t : State) : Prop :=
  (queue t.passage.notices = [] ∧ part t = part (settleNotices t)) ∨
  (queue t.passage.notices = [x] ∧ part t = part s)

/-- Each watcher has taken some of its notices, the oldest first, and nothing else has happened; the rest lead where
the whole would have led. -/
structure SomeTaken (s t : State) : Prop where
  followerRest : t.passage.notices.follower <:+ s.passage.notices.follower
  menuMapRest : t.passage.notices.menuMap <:+ s.passage.notices.menuMap
  passRest : t.passage.notices.pass <:+ s.passage.notices.pass
  trackerRest : t.passage.notices.tracker <:+ s.passage.notices.tracker
  reportsRest : t.passage.notices.reports <:+ s.passage.notices.reports
  follower : (settleNotices t).follower = (settleNotices s).follower
  menuMap : (settleNotices t).menuMap = (settleNotices s).menuMap
  gate : (settleNotices t).gate = (settleNotices s).gate
  pass : (settleNotices t).pass = (settleNotices s).pass
  tracker : (settleNotices t).tracker = (settleNotices s).tracker
  reports : (settleNotices t).reports = (settleNotices s).reports
  aside : t.time = s.time ∧ t.pins = s.pins ∧ t.store = s.store ∧ t.segments = s.segments ∧ t.pen = s.pen ∧
    t.loft = s.loft ∧ t.echo = s.echo ∧ t.handed = s.handed ∧ t.moment = s.moment ∧ t.pending = s.pending
  passage : t.passage.port = s.passage.port ∧ t.passage.held = s.passage.held ∧
    t.passage.resetInForce = s.passage.resetInForce

/-! ### Strike results handed on -/

/-- The two receivers have taken all that has been handed on, each in the order of the strikes. -/
def settleResults (s : State) : State :=
  crossResultsTake s.handed.tracker.length (gateResultsTake s.handed.gate.length s)

/-- A receiver that has been handed one thing has taken it, and its part of the state is as when it has taken all, or
has still to take it, and its part is as before (R92). -/
abbrev ResultTakenOrPending {α β : Type} (queue : HandOffs → List α) (part : State → β) (x : α) (s t : State) : Prop :=
  (queue t.handed = [] ∧ part t = part (settleResults t)) ∨ (queue t.handed = [x] ∧ part t = part s)

/-- Each receiver has taken some of what has been handed on, the oldest first, and nothing else has happened. -/
abbrev SomeResultsTaken (s t : State) : Prop :=
  ∃ i ≤ s.handed.gate.length, ∃ j ≤ s.handed.tracker.length, ∃ drawn,
    t = (crossResultsTake j (gateResultsTake i s)).setChoices drawn

/-- The watchers have taken some of the notices, and then the two receivers some of the strike results. -/
abbrev SomeMet (s t : State) : Prop := ∃ u, SomeTaken s u ∧ SomeResultsTaken u t

/-! ### A cycle held behind an own cycle -/

/-- What the completion of an own cycle does for the bus cycles held in BWAIT behind it. A lone one is carried: the
fair-share count rises with an own request outstanding, where the write-out's next request (`offers`) counts or not, and
some strike results may be taken first. One held behind others is carried as one presented right after them. A P-read
so carried answers the stored word (R157, R165, R166, R168). -/
def HeldCyclesFollow (done : Instr) (offers : Bool) (s : State) : Prop :=
  let holding := fun (l : List BusCycle) => s.setPassage { s.passage with held := l }
  ∀ (a : Addr) (d : Word) (x y : Coord), ∃ t, exec done (holding []) = .next t ∧
    (∀ p ∈ passingCommands a d x y, ∃ counted u,
      (counted = ownRequests t ∨ offers = true ∧ counted = otherRequests t) ∧
      SomeResultsTaken (countPassing counted (breakLock p.2 t)) u ∧
      exec done (holding [p.2]) = .next (hold [] (carry p.2 u))) ∧
    (∀ l ≠ [], ∀ p ∈ (.idleCycle, .idle) :: passingCommands a d x y, ∃ u, exec done (holding l) = .next u ∧
      exec done (holding (l ++ [p.2])) = exec p.1 u) ∧
    (ResultsTaken s → ∃ count,
      exec done (holding [.pRead a]) = .next ((t.setPins
        { t.pins with bd := t.word a, ma := a, md := t.word a, mcyc := .idle, bwait := false }).setPassage
        { t.passage with lockHeld := false, pairWritten := false, fairShare := count, held := [] }) ∧
      (count = t.passage.fairShare ∨ count = min 8 (t.passage.fairShare + 1)) ∧
      (ownRequests t = [] → count = t.passage.fairShare) ∧
      (otherRequests t ≠ [] ∨ ownRequests t ≠ [] ∧ offers = false → count = min 8 (t.passage.fairShare + 1)))

/-! ### Orders -/

/-- The boundary honours a SYSTEM order at an address: straps of 0 protect nothing, and straps of `n` protect from
16,384 times `n` up (R33). -/
abbrev Honoured (s : State) (a : Addr) : Prop :=
  s.pass.straps = 0 ∨ a.toNat < 16384 * s.pass.straps.toNat

/-- A field of a PASS order's argument `k`, or its present value where the order does not carry it (R31, R36). -/
def fieldOr {α : Type} (ws : List Word) (k : Nat) (present : α) (f : Word → α) : α := (ws[k]?).elim present f

/-- A RESTART fetched at the expected address, in its turn, with no order in progress (R13). -/
abbrev AtRestart (a target : Addr) (s : State) : Prop :=
  PassingGranted s ∧ s.follower.follow = .following ∧ s.follower.expected = some a ∧
  s.follower.inProgress = none ∧ decodeOrder (s.word a) = .restart target

/-- The Gate Unit makes no report at a frame end: the gate is CLOSED and no dwell goes on (R108, R114, R115). -/
abbrev GateQuiet (s : State) : Prop :=
  s.gate.gate = none ∧ s.gate.dwell.won = false ∧ s.gate.dwell.candidate = none

/-- The attribute set that the words of a SEGMENT order form over a present one, by 12.2's bits: argument 1 gives the
class (3 reads as READOUT), the sensitivity (3 reads as BLIND), the priority, the highlight and the boost (0 reads as
1), and argument 2 the trigger and the separator of a MENU class. What the order does not carry stays, and a new class
has its own part's defaults (R32, R50, R52, R56). -/
def segmentSet (present : Attributes) (ws : List Word) : Attributes :=
  let cls := fieldOr ws 1
    (match present.classPart with | .draw => 0 | .menu _ _ => 1 | .readout _ => 2)
    (fun w => (w.extractLsb' 22 2).toNat)
  { classPart :=
      match cls with
      | 0 => .draw
      | 1 =>
        match ws[2]?, present.classPart with
        | some w, _ => .menu (w.extractLsb' 0 7) (if w.getLsbD 7 then .dwell else .tip)
        | none, .menu separator trigger => .menu separator trigger
        | none, _ => .menu 0x7C#7 .tip
      | _ =>
        match present.classPart with
        | .readout p => .readout p
        | _ => .readout { axis := .a, form := .linear, digits := 6, fill := .zero, overflowMark := 0x2A#7 }
    sensitivity := fieldOr ws 1 present.sensitivity (fun w =>
      match (w.extractLsb' 20 2).toNat with | 0 => .pick | 1 => .locked | _ => .blind)
    priority := fieldOr ws 1 present.priority (fun w => (w.extractLsb' 17 3).toNat)
    highlight := fieldOr ws 1 present.highlight (fun w =>
      match (w.extractLsb' 15 2).toNat with | 0 => .none | 1 => .bright | 2 => .dim | _ => .blink)
    boost := fieldOr ws 1 present.boost (fun w => max 1 (w.extractLsb' 11 4).toNat) }

/-- The Order Follower once a NAME has been applied: the innermost level renamed (R19). -/
def renamedInnermost (n : Name) (f : Follower) : Follower :=
  match f.pushed.getLast? with
  | none => { f with rootName := n }
  | some level => { f with pushed := f.pushed.dropLast ++ [{ level with name := n }] }

/-- The units that a PASS order can act on stand alike in two states (R24, R30). -/
abbrev SameUnits (s t : State) : Prop :=
  t.pass = s.pass ∧ t.segments = s.segments ∧ t.pen = s.pen ∧ t.gate = s.gate ∧ t.loft = s.loft ∧
  t.tracker = s.tracker ∧ t.reports = s.reports ∧ t.echo.picked = s.echo.picked ∧ t.echo.item = s.echo.item ∧
  t.echo.readouts = s.echo.readouts ∧ t.follower.tFT = s.follower.tFT ∧
  t.follower.pendingTFT = s.follower.pendingTFT ∧ t.moment = s.moment

/-- What a PASS order is handed over to: the state, with the innermost level renamed first where it is a NAME (R19,
R24). -/
def atHandOff (subtype : Nat) (payload : BitVec 12) (s : State) : State :=
  if subtype = 1 then s.setFollower (renamedInnermost payload s.follower) else s

/-- The Pen Front End after a frame end: the pending settings applied whole, the strike count 0, the latch by the
inhibit mode now in force; a changed invert setting judges its line anew, an edge mode changed to LEVEL starts the
repetition interval at an active level and one changed from LEVEL stops it; the rest stays (R73, R76). -/
def penAfterFrame (s : State) : Pen :=
  let p := s.pen
  let new := p.shadow.getD p.active
  let photo := if new.photoInvert = p.active.photoInvert then p.photoLevel else s.pins.photo != new.photoInvert
  let tip := if new.tipInvert = p.active.tipInvert then p.tipLevel else s.pins.tip != new.tipInvert
  { p with
    active := new, shadow := none, photoLevel := photo, tipLevel := tip, strikes := 0
    repetition :=
      if p.shadow = none then p.repetition
      else if new.edgeMode ≠ .level then none
      else if p.active.edgeMode = .level ∧ new.photoInvert = p.active.photoInvert then p.repetition
      else if photo = false then none
      else if p.active.edgeMode = .level ∧ p.repetition ≠ none then p.repetition
      else some { since := s.time, length := new.tDT }
    debounce :=
      if new.tipInvert = p.active.tipInvert then p.debounce
      else if tip = (p.tip == .down) then none
      else some { since := s.time, length := new.tDB * 1000 }
    inhibitLatch := match new.inhibitMode with
      | .level => false
      | .latch => p.inhibitLatch && s.pins.pinh }

/-- The Segment Table after a frame end: the dropped entries gone, every pending shadow active (R59, R60, R61). -/
def segmentsAfterFrame (t : SegmentTable) : SegmentTable :=
  { entries := (t.entries.filter (fun e => !e.dropPending)).map (fun e =>
      { e with active := e.shadow.getD e.active, shadow := none })
    fullReported := false }

/-- The Order Follower after a frame end made with an empty context, `expected` next (R14, R15, R27). -/
def followerAfterFrame (expected : Option Addr) (s : State) : Follower :=
  { s.follower with
    follow := .following, resync := none, rootName := 0, pushed := [], transfer := none, inProgress := none
    expected := expected, frameNo := s.follower.frameNo + 1
    tFT := s.follower.pendingTFT.getD s.follower.tFT, pendingTFT := none
    timeoutSince := s.time, timeoutArmed := true, display := .running }

/-- A frame end has been made: the Order Follower, the Pass Decoder, the Segment Table and the pen are as after it, the
shadows of the other settings have been applied, and the readout list is empty (R15, R34, R59, R76, R101, R123, R150,
R181). -/
structure FrameEnded (expected : Option Addr) (s t : State) : Prop where
  follower : t.follower = followerAfterFrame expected s
  pass : t.pass = { s.pass with protectedReported := false }
  segments : t.segments = segmentsAfterFrame s.segments
  pen : t.pen = penAfterFrame s
  gate : t.gate.active = s.gate.shadow.getD s.gate.active ∧ t.gate.shadow = none
  loft : t.loft = { s.loft with active := s.loft.shadow.getD s.loft.active, shadow := none }
  tracker : t.tracker.active = s.tracker.shadow.getD s.tracker.active ∧ t.tracker.shadow = none
  readouts : t.echo.readouts = []
  aside : t.store = s.store ∧ t.menuMap = s.menuMap ∧ t.time = s.time

/-- A pending transfer has been carried out from `f`, the address after the slot order's last word being `next`: a JUMP
expects its target, a CALL pushes a level that inherits the innermost name, and a RETURN pops one (R11, R16, R17,
R18). -/
abbrev CarriedOut (tr : Transfer) (next : Addr) (f t : Follower) : Prop :=
  t.follow = .following ∧ t.transfer = none ∧ t.inProgress = none ∧ t.rootName = f.rootName ∧
  match tr with
  | .jump target => t.expected = some target ∧ t.pushed = f.pushed
  | .call target hides =>
    t.expected = some target ∧
    t.pushed = f.pushed ++
      [{ name := ((f.pushed.map (·.name)).getLast?).getD f.rootName, returnAddr := next, opaqueCall := hides }]
  | .ret => ∀ outer level, f.pushed = outer ++ [level] → t.expected = some level.returnAddr ∧ t.pushed = outer

/-! ### Strikes -/

/-- The Pen Front End has taken every change of the two states: its copies agree with the Order Follower (R25, R68). -/
abbrev CopiesSound (s : State) : Prop :=
  s.pen.followCopy = s.follower.follow ∧ s.pen.displayCopy = s.follower.display

/-- The next change of PHOTO is a pulse and an accepted strike: edge mode ANY, no change of the two states still to be
taken, and the five conditions of R68. -/
abbrev StrikeReady (s : State) : Prop :=
  s.pen.active.edgeMode = .any ∧ CopiesSound s ∧ s.follower.follow = .following ∧ s.follower.display = .running ∧
  s.pen.active.inhibitMode = .level ∧ s.pins.pinh = false ∧ s.pen.lastStrike = none ∧
  s.pen.strikes < s.pen.active.strikeLimit

/-- A candidate under the active cross name (R83, R84). -/
abbrev UnderCross (s : State) (e : HistoryEntry) : Prop :=
  s.tracker.active.crossName ≠ 0 ∧ e.name = s.tracker.active.crossName

/-- The latest fields that a strike at a beam gives its winner (R91, R104). -/
def struckSnapshot (x y : Coord) (e : HistoryEntry) (item : Option ItemDesc) (s : State) : Snapshot :=
  { orderAddr := e.addr, path := e.path, edited := e.edited
    locked := (attributesOf s e.name).sensitivity == .locked, sampleX := x, sampleY := y
    loftA := (convert s.loft.active x y).loftA, loftB := (convert s.loft.active x y).loftB
    side := (convert s.loft.active x y).side, item := item, stale := false }

/-- The Gate Unit once an OPEN gate has been given a vote: a key of the Tally gains it, a new key joins up to eight, and
a ninth only marks the gate CROWDED (R104, R105). -/
def votedGate (g : OpenGate) (key : Key) (priority : Nat) (latest : Snapshot) (s : State) : GateUnit :=
  if s.gate.tally.any (fun v => v.key == key) then
    { s.gate with
      tally := s.gate.tally.map (fun v =>
        if v.key = key then
          { v with
            votes := v.votes + 1, topPriority := max v.topPriority priority, lastVote := s.time, latest := latest }
        else v) }
  else if s.gate.tally.length < 8 then
    { s.gate with
      tally := s.gate.tally ++
        [{ key := key, votes := 1, topPriority := priority, lastVote := s.time, latest := latest }] }
  else { s.gate with gate := some { g with crowded := true } }

/-! ### Reports and records -/

/-- The fields that the three tracking reports share, by the active view (R154). -/
def trackingReport (kind : ReportKind) (frame : FrameNo) (s : State) : Report :=
  let p := convert s.loft.active s.tracker.tx s.tracker.ty
  { kind := kind, frame := frame, stamp := s.time, name := some s.tracker.active.crossName, side := p.side
    loft := some (p.loftA, p.loftB), sample := some (s.tracker.tx, s.tracker.ty)
    orderAddr := s.tracker.cross.map (·.addr) }

/-- The TRACK-END of a run that ends now: reason 1 TIP, 2 COMMAND, 3 STOPPED (R151, R154). -/
def runEndReport (reason : Nat) (s : State) : Report :=
  { trackingReport .trackEnd s.follower.frameNo s with
    flags := { lost := s.tracker.state == .lost }, code := some reason }

/-- The write-back outstanding once a run has ended: the substituted cross MOVE with the final position, in place of
any earlier one (R152). -/
def runEndWriteBack (t : Tracker) : Option WriteBack :=
  match t.cross with
  | some c =>
    if c.substituted then
      some { addr := c.addr, word := c.word.extractLsb' 20 4 ++ t.tx ++ t.ty, granted := false }
    else t.writeBack
  | none => t.writeBack

/-- The Tracking Unit once a run has ended (R151). -/
def runEndTracker (t : Tracker) : Tracker :=
  { t with
    state := .off, lossCount := 0, crossStruck := false, sightedThisFrame := false, sightedLastFrame := false
    lastReported := none, writeBack := runEndWriteBack t }

/-- The report of a decision with a winner (R109, R110). -/
def gateDecision (g : OpenGate) (stopped : Bool) (w : TallyEntry) (runner : Option TallyEntry) (frame : FrameNo)
    (stamp : Time) : Report :=
  let stale := w.latest.stale && w.key.item.isSome
  { kind := if w.key.item.isSome then .item else .pick
    flags :=
      { ambiguous := runner.any (fun r => w.votes ≤ 2 * r.votes), crowded := g.crowded, edited := w.latest.edited
        stale := stale, locked := w.latest.locked, stopped := stopped }
    side := w.latest.side, frame := frame, name := some w.key.name, item := w.key.item
    orderAddr := some w.latest.orderAddr, path := w.latest.path, loft := some (w.latest.loftA, w.latest.loftB)
    sample := some (w.latest.sampleX, w.latest.sampleY), winnerVotes := w.votes
    runnerVotes := runner.elim 0 (·.votes), runner := runner.map (·.key)
    itemSpan := w.latest.item.map (fun i => (i.start, if stale then 0 else i.length)), stamp := stamp }

/-- The last-pick record that the latest fields of a key give (R111). -/
def pickedLast (x : Snapshot) : LastPick :=
  { sampleX := x.sampleX, sampleY := x.sampleY, loftA := x.loftA, loftB := x.loftB, side := x.side }

/-- What the close of the gate reports: nothing of a CLOSED gate, a MISS of an empty Tally, else the decision (R107,
R110). -/
def decisionReports (stopped : Bool) (s : State) : List Report :=
  match s.gate.gate with
  | none => []
  | some g =>
    match tallyWinner g.openTime s.gate.tally with
    | none => [{ kind := .miss, flags := { stopped := stopped }, frame := s.follower.frameNo, stamp := s.time }]
    | some w => [gateDecision g stopped w (tallyRunner g.openTime s.gate.tally w) s.follower.frameNo s.time]

/-- What the end of a run reports: nothing in OFF (R151). -/
def runEndReports (reason : Nat) (s : State) : List Report :=
  if s.tracker.state = .off then [] else [runEndReport reason s]

/-- The Report Writer once reports have been requested one after another (R186, R189). -/
def reportsAsked (l : List Report) (s : State) : ReportWriter :=
  (l.foldl (fun t r => requestReport r t) s).reports

/-- The item echo after a frame end that requests none: one frame less, and absent at 0 (R176). -/
def echoOneFrameOn (e : Option ItemEcho) : Option ItemEcho :=
  e.bind (fun i => if i.frames ≤ 1 then none else some { i with frames := i.frames - 1 })

/-! ### Sound blocks -/

/-- The refresh store's list is in its one canonical form. -/
abbrev StoreSound (s : State) : Prop := Store.wf s.store

/-- The Order Follower holds at most 7 pushed levels and 16 history entries; outside FOLLOWING it holds no
context, order, transfer, expectation or history, and in FOLLOWING an expectation and no candidate; a pending
CALL has room for its level and a pending RETURN a level to pop; the frame timeout is armed exactly while the
display is RUNNING (R5, R6, R9, R16, R17, R18, R21, R23, R26). -/
structure FollowerSound (f : Follower) : Prop where
  levels : f.pushed.length ≤ 7
  historyLength : f.history.length ≤ 16
  historyPaths : ∀ e ∈ f.history, 1 ≤ e.path.length ∧ e.path.length ≤ 8
  historyTexts : ∀ e ∈ f.history, ∀ t, e.text = some t → 1 ≤ t.count ∧ t.count ≤ 255 ∧ t.fetched ≤ t.count
  unfollowed : f.follow ≠ .following → f.rootName = 0 ∧ f.pushed = [] ∧ f.transfer = none ∧
    f.inProgress = none ∧ f.expected = none ∧ f.history = []
  followed : f.follow = .following → f.resync = none ∧ f.expected ≠ none
  order : ∀ p, f.inProgress = some p → 1 ≤ p.fetched ∧ p.fetched < p.words ∧ p.words ≤ 86 ∧
    p.stored.length = p.fetched
  slotCall : ∀ target hides, f.transfer = some (.call target hides) → f.pushed.length < 7
  slotReturn : f.transfer = some .ret → f.pushed ≠ []
  timeout : f.timeoutArmed = true ↔ f.display = .running
  tFT : 10 ≤ f.tFT ∧ f.tFT ≤ 255
  pendingTFT : ∀ n, f.pendingTFT = some n → 10 ≤ n ∧ n ≤ 255

/-- The Consumption List holds at most 4 entries, no address twice (R43). -/
structure ConsumptionSound (l : List Consumption) : Prop where
  length : l.length ≤ 4
  distinct : (l.map (·.addr)).Nodup

/-- The legal values of an attribute set (R32, R50). -/
structure AttributesSound (a : Attributes) : Prop where
  priority : a.priority ≤ 7
  boost : 1 ≤ a.boost ∧ a.boost ≤ 15
  digits : ∀ p, a.classPart = .readout p → 1 ≤ p.digits ∧ p.digits ≤ 7

/-- The Segment Table holds at most 128 entries, never two of one name, never name 0 (R49), all of legal values
(R50). -/
structure SegmentsSound (t : SegmentTable) : Prop where
  length : t.entries.length ≤ 128
  distinct : (t.entries.map (·.name)).Nodup
  named : ∀ e ∈ t.entries, e.name ≠ 0
  active : ∀ e ∈ t.entries, AttributesSound e.active
  shadow : ∀ e ∈ t.entries, ∀ a, e.shadow = some a → AttributesSound a

/-- The legal values of the pen settings (R65). -/
structure PenSettingsSound (p : PenSettings) : Prop where
  tLW : p.tLW ≤ 15
  tDT : 1 ≤ p.tDT ∧ p.tDT ≤ 63
  strikeLimit : 1 ≤ p.strikeLimit ∧ p.strikeLimit ≤ 16
  tDB : 1 ≤ p.tDB ∧ p.tDB ≤ 31

/-- The conditioned levels follow the lines (R66, R74); the repetition interval runs exactly in LEVEL mode with
the level active (R67); the debounce interval runs exactly while the level disagrees with the tip state (R74);
the latch is clear in LEVEL mode (R72); no frame counts more strikes than the limit (R70). -/
structure PenSound (p : Pen) (pins : Pins) : Prop where
  active : PenSettingsSound p.active
  shadow : ∀ c, p.shadow = some c → PenSettingsSound c
  photo : p.photoLevel = conditioned pins.photo p.active.photoInvert
  tip : p.tipLevel = conditioned pins.tip p.active.tipInvert
  repetition : p.repetition.isSome = true ↔ p.active.edgeMode = .level ∧ p.photoLevel = true
  debounce : p.debounce.isSome = disagrees p.tipLevel p.tip
  latch : p.active.inhibitMode = .level → p.inhibitLatch = false
  strikes : p.strikes ≤ p.active.strikeLimit

/-- Items that stand one after another, a separator between each and the next, from a first index to the number
of characters scanned (R93, R95). -/
def itemsLaidOut : Nat → List Item → Nat → Prop
  | _, [], _ => False
  | first, [i], scanned => i.start = first ∧ i.start + i.length = scanned
  | first, i :: j :: l, scanned => i.start = first ∧ itemsLaidOut (i.start + i.length + 1) (j :: l) scanned

/-- A Menu Map entry: at most 64 items, laid out over the characters scanned, within the count (R93). -/
structure MenuEntrySound (e : MenuEntry) : Prop where
  count : 1 ≤ e.count ∧ e.count ≤ 255
  scanned : e.scanned ≤ e.count
  items : e.items.length ≤ 64
  layout : itemsLaidOut 0 e.items e.scanned

/-- The Menu Map holds at most 16 entries, no two of one address (R93). -/
structure MenuMapSound (m : List MenuEntry) : Prop where
  length : m.length ≤ 16
  distinct : (m.map (·.addr)).Nodup
  entries : ∀ e ∈ m, MenuEntrySound e

/-- The legal values of the gate settings (R101). -/
structure GateSettingsSound (g : GateSettings) : Prop where
  length : 1 ≤ g.length ∧ g.length ≤ 15
  dwell : 2 ≤ g.dwell ∧ g.dwell ≤ 15

/-- The Tally is empty while the gate is CLOSED and holds at most 8 keys, none twice (R102); an OPEN gate has not
reached the length it was compared with (R108) and leaves the Dwell Record empty (R114); an unspent key has not
reached the dwell it was compared with (R114); hover OFF holds no Hover Record (R116). -/
structure GateSound (u : GateUnit) : Prop where
  active : GateSettingsSound u.active
  shadow : ∀ c, u.shadow = some c → GateSettingsSound c
  closed : u.gate = none → u.tally = []
  tallyLength : u.tally.length ≤ 8
  tallyKeys : (u.tally.map (·.key)).Nodup
  votes : ∀ e ∈ u.tally, 1 ≤ e.votes
  frameCount : ∀ g, u.gate = some g → g.frameCount < g.comparedLength ∧ g.comparedLength ≤ 15
  opened : u.gate ≠ none → u.dwell.key = none ∧ u.dwell.candidate = none
  keyless : u.dwell.key = none → u.dwell.count = 0 ∧ u.dwell.spent = false ∧ u.dwell.won = false ∧
    u.dwell.snapshot = none
  keyed : u.dwell.key ≠ none → u.dwell.snapshot ≠ none ∧ u.dwell.count ≤ 15 ∧
    (u.dwell.spent = false → u.dwell.count < u.dwell.comparedDwell ∧ u.dwell.comparedDwell ≤ 15)
  hover : u.active.hover = false → u.hover = none

/-- The legal values of the view settings (R122). -/
structure ViewSettingsSound (v : ViewSettings) : Prop where
  scale : 1 ≤ v.scale ∧ v.scale ≤ 65535
  originA : -999999 ≤ v.originA ∧ v.originA ≤ 999999
  originB : -999999 ≤ v.originB ∧ v.originB ≤ 999999
  centreline : 256 ≤ v.centreline ∧ v.centreline ≤ 767
  grid : v.grid ≤ 9999
  spacing : 100 ≤ v.spacing ∧ v.spacing ≤ 9999
  frameZero : -999999 ≤ v.frameZero ∧ v.frameZero ≤ 999999

/-- Legal view settings, and a readout string of one entry for each character (R122, R132). -/
structure LoftSound (l : LoftUnit) : Prop where
  active : ViewSettingsSound l.active
  shadow : ∀ v, l.shadow = some v → ViewSettingsSound v
  readout : ∀ r, l.readout = some r → r.entries.length = r.count

/-- The legal values of the tracking settings, each box pair in order (R140, R38). -/
structure TrackSettingsSound (b : TrackSettings) : Prop where
  gainShift : b.gainShift ≤ 3
  lossLimit : 1 ≤ b.lossLimit ∧ b.lossLimit ≤ 15
  boxX : b.xmin.toNat ≤ b.xmax.toNat
  boxY : b.ymin.toNat ≤ b.ymax.toNat

/-- The position lies within the box (R141); a run in OFF holds no count, strike or reported position (R151), a
run that goes on holds no sighting (R147) and, in TRACKING, has not reached the loss count it was compared with
(R149); no cross order record stands without a cross name (R142, R150). -/
structure TrackerSound (t : Tracker) : Prop where
  active : TrackSettingsSound t.active
  shadow : ∀ b, t.shadow = some b → TrackSettingsSound b
  positionX : t.active.xmin.toNat ≤ t.tx.toNat ∧ t.tx.toNat ≤ t.active.xmax.toNat
  positionY : t.active.ymin.toNat ≤ t.ty.toNat ∧ t.ty.toNat ≤ t.active.ymax.toNat
  lossCount : t.lossCount ≤ 15
  off : t.state = .off → t.lossCount = 0 ∧ t.crossStruck = false ∧ t.lastReported = none
  running : t.state ≠ .off → t.sightedThisFrame = false ∧ t.sightedLastFrame = false
  tracking : t.state = .tracking → t.lossCount < t.comparedLoss
  compared : 1 ≤ t.comparedLoss
  cross : t.active.crossName = 0 → t.cross = none

/-- An item echo has 1 to 8 frames left (R176); the readout list holds at most 8 entries, no name twice
(R173). -/
structure EchoSound (u : EchoUnit) : Prop where
  item : ∀ i, u.item = some i → 1 ≤ i.frames ∧ i.frames ≤ 8
  readoutLength : u.readouts.length ≤ 8
  readoutNames : (u.readouts.map (·.1)).Nodup

/-- A ring that R39 calls valid: its slot count 2 to 64, its base a multiple of 16, its slots within the
store. -/
structure RingSound (r : Ring) : Prop where
  slots : 2 ≤ r.slots ∧ r.slots ≤ 64
  base : r.base.toNat % 16 = 0
  room : r.base.toNat + 16 * r.slots ≤ 262144

/-- The place of a write-out agrees with the Slot Map: FILLING and PUBLISH hold their slot FILLING, WAITING a
slot that is OCCUPIED or WRITTEN, CLAIM a slot that is neither (R190 to R193). -/
def WriteOutSound (w : ReportWriter) (o : WriteOut) : Prop :=
  o.slot = w.pointer ∧
  match o.step with
  | .claim => w.slotState o.slot = .unknown ∨ w.slotState o.slot = .free
  | .waiting => w.slotState o.slot = .occupied ∨ w.slotState o.slot = .written
  | .filling k => 1 ≤ k ∧ k ≤ 15 ∧ w.slotState o.slot = .filling
  | .publish => w.slotState o.slot = .filling

/-- At most 4 queued records and at most one TRACK among them (R186); a Slot Map of one state for each slot of
the ring (R194); ATTENTION exactly while a slot is WRITTEN (R195); a sequence number of 1 to 255 (R192); no
record left in the queue while the write-out is idle and a ring is active (R189); no slot FILLING but the
write-out's (R194); a deferral only of a pending shadow during FILLING or PUBLISH (R196). -/
structure ReportsSound (w : ReportWriter) : Prop where
  ring : ∀ r, w.ring = some r → RingSound r ∧ w.slots.length = r.slots ∧ w.pointer < r.slots
  noRing : w.ring = none → w.slots = [] ∧ w.writeOut = none ∧ w.pointer = 0
  shadow : ∀ r, w.shadow = some r → RingSound r
  attention : w.attention = w.slots.any (· == .written)
  sequence : 1 ≤ w.sequence ∧ w.sequence ≤ 255
  queueLength : w.queue.length ≤ 4
  oneTrack : (w.queue.filter (fun r => r.kind == .track)).length ≤ 1
  idle : w.ring ≠ none → w.writeOut = none → w.queue = []
  writeOut : ∀ o, w.writeOut = some o → WriteOutSound w o
  filling : ∀ i, w.slotState i = .filling →
    ∃ o, w.writeOut = some o ∧ o.slot = i ∧ o.step ≠ .claim ∧ o.step ≠ .waiting
  deferral : w.deferral = true → w.shadow ≠ none ∧
    ∃ o, w.writeOut = some o ∧ o.step ≠ .claim ∧ o.step ≠ .waiting

/-- The request behind an own cycle in progress is still outstanding (R163, R164). -/
def PortSound (s : State) : OwnCycle → Prop
  | .consumption a w => ∃ c ∈ s.pass.consumption, c.addr = a ∧ consumptionWord c.extra = w
  | .writeBack _ _ => ∃ b, s.tracker.writeBack = some b
  | c => writeOutRequest s.reports = some c

/-- The fair-share count is at most 8 (R166); BWAIT is asserted exactly while a cycle waits, and a cycle waits
only behind an own cycle or the power-up reset (R157, R169); no own cycle is in progress while the lock is held
(R160) or a notice is being taken (R162), and none is while the power-up reset is in force (R169); a completed pair
holds the lock only for its notice (R160); MCYC shows the cycle in progress, and its requester still asks for it (R163,
R164). -/
structure PassageSound (s : State) : Prop where
  count : s.passage.fairShare ≤ 8
  wait : s.pins.bwait = !s.passage.held.isEmpty
  held : s.passage.held ≠ [] → s.passage.port ≠ none ∨ s.passage.resetInForce = true
  first : s.passage.held.head? ≠ some .idle
  lock : s.passage.lockHeld = true → s.passage.port = none ∧ s.passage.resetInForce = false
  pair : s.passage.pairWritten = true → s.passage.lockHeld = true ∧ s.passage.notices ≠ .none
  notices : s.passage.notices ≠ .none → s.passage.port = none ∧ s.passage.resetInForce = false
  reset : s.passage.resetInForce = true → s.passage.port = none
  array : s.pins.mcyc = match s.passage.port with
    | none => .idle
    | some (.claim _) => .read
    | some _ => .write
  port : ∀ c, s.passage.port = some c → PortSound s c

end Sys2Proof.Machine
end

