-- ==== Sys2Proof/Certificates/Slice0/Obligations.lean ====
section
/-! DEFINITION. The statements about the Ustrel 416, for the provers: the queue and time, the resets, the bus and
the port, the fetches, PASS orders, the pen, the counts of a frame, the rules of choice and of arithmetic, and the
invariants that every step keeps. -/

open Sys2Proof Sys2Proof.Machine

/-! ### The queue and time -/

/-- A step at a queue whose front is `c` is `exec c` with the queue's rest. -/
def Obligations.StepTakesFrontCommand : Prop :=
  ∀ (c : Instr) (rest : List Instr) (s : State),
    step (s.setPending (c :: rest)) = exec c (s.setPending rest)

/-- No command stops. That none touches the queue, and that none but POWER_UP changes the time base, is the model's
choice: a command is taken whole from the queue (assumption log 1), and time passes only on an empty queue (assumption
log 5). Where notices are still being taken, or strike results are still to be taken, a bus cycle presented to a free
port, an event and an INIT each find some of them taken, the oldest first at each watcher and receiver, and then have
their own effect; how many is free (R92, R162, assumption logs 2, 8 and 25). -/
def Obligations.EveryCommandAnswersANextState : Prop :=
  (∀ (c : Instr) (s : State), ∃ t, exec c s = .next t ∧ t.pending = s.pending ∧
    ((∀ v, c ≠ .powerUp v) → t.time = s.time)) ∧
  (∀ (a : Addr) (d : Word) (x y : Coord) (s : State), PortOpen s → ¬Settled s →
    ∀ p ∈ passingCommands a d x y,
      ∃ u, SomeMet s u ∧ (p.1 ≠ .lockedPWrite a d → u.passage.lockHeld = false) ∧
        exec p.1 s = .next (
          if ownTurn u then hold [p.2] (grantOwn u) else hold [] (carry p.2 (countPassing (ownRequests u) u)))) ∧
  (∀ (x y : Coord) (v : BitVec 4) (s : State), ¬Settled s →
    ∀ p ∈ [(Instr.photoEdge x y, true, fun u => photoChange (presentBeam x y u)),
        (.repetitionIntervalExpiry x y, repetitionDue s, fun u => repetitionExpires (presentBeam x y u)),
        (.debounceExpiry, debounceDue s, debounceExpires), (.frameTimeoutExpiry, timeoutDue s, timeoutExpires),
        (.gateCloseByLength, s.gate.gate.any (fun g => g.comparedLength ≤ g.frameCount), closeByLength),
        (.dwellReport, decide (s.gate.dwell.comparedDwell ≤ s.gate.dwell.count), dwellReport),
        (.trackLost, decide (s.tracker.comparedLoss ≤ s.tracker.lossCount), goLost s.loft.active),
        (.busInit v, true, initPart v)],
      p.2.1 = true → ∃ u, SomeMet s u ∧ exec p.1 s = .next (p.2.2 u))

/-- On an empty queue one due event is taken, whichever it is; when none is due one microsecond passes, and by then the
Pen Front End has taken every change of the two states, the Echo Unit and the Report Writer every request, the watchers
every notice, and the Gate Unit and the Tracking Unit every strike result of an earlier microsecond, some of them before
the events that are due. The model's choice, assumption logs 2, 5, 8, 20, 22 and 25. -/
def Obligations.EmptyQueueTakesADueEventOrAMicrosecond : Prop :=
  ∀ s : State, s.pending = [] →
    let onward := fun (u : State) =>
      { u with
        time := u.time + 1
        pen := { u.pen with followCopy := u.follower.follow, displayCopy := u.follower.display }
        moment := { echo := [], reports := [] } }
    (Settled s →
      (dueEvents s = [] → step s = .next (onward s)) ∧
      (dueEvents s ≠ [] →
        ∃ e ∈ dueEvents s, step s = .next (takeDue { s with choices := s.choices + 1 } e))) ∧
    (¬Settled s → ∃ u, SomeMet s u ∧
      (dueEvents u = [] → ∃ i ≤ u.handed.gate.length, ∃ j ≤ u.handed.tracker.length,
        let v := crossResultsTake j (gateResultsTake i (settleNotices u))
        step s = .next (onward v) ∧ NoticesTaken v ∧ (∀ w, v.handed.gate.head? = some w → w.time = s.time) ∧
        (∀ r, v.handed.tracker.head? = some r → r.time = s.time)) ∧
      (dueEvents u ≠ [] →
        ∃ e ∈ dueEvents u, step s = .next (takeDue { u with choices := u.choices + 1 } e)))

/-! ### Resets -/

/-- POWER_UP: the values of R28, R47, R62, R77, R99, R120, R138, R155, R169, R182 and R198. The input lines, the
store, the queue and the free choices are left as found (assumption log 13). That the requests kept of the moment and
the strike results still to be taken are dropped is the model's choice, assumption logs 22 and 25. -/
def Obligations.PowerUpSetsEveryBlock : Prop :=
  ∀ (v : BitVec 4) (s : State), exec (.powerUp v) s = .next
    { s with
      time := 0
      pins := { s.pins with bwait := false, mcyc := .idle }
      follower :=
        { follow := .waiting, resync := none, rootName := 0, pushed := [], transfer := none,
          inProgress := none, expected := none, history := [], frameNo := 0, display := .running,
          timeoutSince := 0, timeoutArmed := true, tFT := 100, pendingTFT := none }
      pass := { straps := v, protectedReported := false, consumption := [] }
      segments := { entries := [], fullReported := false }
      pen :=
        { active :=
            { edgeMode := .rising, photoInvert := false, tipInvert := false, inhibitMode := .level,
              tLW := 3, tDT := 12, strikeLimit := 6, tDB := 6 }
          shadow := none, photoLevel := s.pins.photo, repetition := none, lastStrike := none,
          strikes := 0, inhibitLatch := false, followCopy := .waiting, displayCopy := .running,
          tipLevel := s.pins.tip, tip := .up
          debounce := if s.pins.tip then some { since := 0, length := 6000 } else none }
      menuMap := []
      gate :=
        { active := { length := 4, dwell := 6, hover := true }, shadow := none, gate := none,
          tally := []
          dwell :=
            { key := none, count := 0, spent := false, won := false, snapshot := none,
              candidate := none, comparedDwell := 0 }
          hover := none, lastPick := none }
      loft :=
        { active :=
            { view := .plan, rounding := .rn, scale := 256, originA := 0, originB := 0,
              centreline := 512, grid := 0, spacing := 600, frameZero := 0 }
          shadow := none, readout := none }
      tracker :=
        { active :=
            { crossName := 0, gainShift := 1, lossLimit := 5, xmin := 0, xmax := 1023, ymin := 0,
              ymax := 1023 }
          shadow := none, state := .off, tx := 512, ty := 512, crossStruck := false, lossCount := 0,
          comparedLoss := 5, lastReported := none, sightedThisFrame := false,
          sightedLastFrame := false, cross := none, writeBack := none }
      echo := { picked := none, item := none, text := none, readouts := [] }
      reports :=
        { ring := none, shadow := none, deferral := false, slots := [], pointer := 0, sequence := 1,
          queue := [], gap := false, writeOut := none, attention := false }
      passage :=
        { port := none, lockHeld := false, pairWritten := false, fairShare := 0, held := [], resetInForce := true
          notices := .none }
      handed := .none
      moment := .empty }

/-- The state after reset is what a power-up and the end of its reset leave, and every block of it is sound. -/
def Obligations.ResetIsPowerUpAndSound : Prop :=
  exec (.powerUp 0) State.reset =
      .next (State.reset.setPassage { State.reset.passage with resetInForce := true }) ∧
  exec .powerUpResetEnd (State.reset.setPassage { State.reset.passage with resetInForce := true }) =
      .next State.reset ∧
  StoreSound State.reset ∧ FollowerSound State.reset.follower ∧ CopiesSound State.reset ∧
  ConsumptionSound State.reset.pass.consumption ∧ SegmentsSound State.reset.segments ∧
  PenSound State.reset.pen State.reset.pins ∧ MenuMapSound State.reset.menuMap ∧
  GateSound State.reset.gate ∧ LoftSound State.reset.loft ∧ TrackerSound State.reset.tracker ∧
  EchoSound State.reset.echo ∧ ReportsSound State.reset.reports ∧ PassageSound State.reset

/-- INIT. With no bus cycle waiting and no own cycle in progress every block takes the values of R29, R48, R63, R78,
R100, R121, R139, R156, R170, R183 and R199. An own cycle in progress is finished first: its write is placed, or the
word of its read discarded, and every request is dropped (R170, R199). A bus cycle held in BWAIT outlives the INIT: it
is carried as one presented right after it (R170). Of the echo requests and the report requests of its own moment some
may be taken after the INIT, and outlive it (R183, R199): each unit takes them in the order in which they were handed
over, and a moment ends with its microsecond, the model's choice, assumption log 22. The claim of a report
request that outlives the INIT is offered before the grant of a held cycle or after it, so that the count rises or does
not (R168, assumption log 2). A notice being taken outlives the INIT and finds its watcher reset, the model's choice,
assumption log 8. A strike result still to be taken is taken before the INIT, a cross result then moving the position,
or discarded (R100, R121, R156). -/
def Obligations.InitResetsEveryBlock : Prop :=
  (∀ (v : BitVec 4) (s : State), s.passage.port = none → s.passage.held = [] → s.moment = .empty →
     Settled s → exec (.busInit v) s = .next
       { s with
         pins := { s.pins with bwait := false }
         follower :=
           { follow := .waiting, resync := none, rootName := 0, pushed := [], transfer := none,
             inProgress := none, expected := none, history := [], frameNo := 0, display := .running,
             timeoutSince := s.time, timeoutArmed := true, tFT := s.follower.tFT, pendingTFT := none }
         pass := { straps := v, protectedReported := false, consumption := [] }
         segments :=
           { entries := s.segments.entries.map (fun e =>
               { e with shadow := none, dropPending := false, lastSeen := 0 })
             fullReported := false }
         pen :=
           { s.pen with
             shadow := none
             photoLevel := s.pins.photo != s.pen.active.photoInvert
             repetition :=
               if s.pen.active.edgeMode = .level ∧ (s.pins.photo != s.pen.active.photoInvert) = true then
                 some { since := s.time, length := s.pen.active.tDT }
               else none
             strikes := 0, inhibitLatch := false, followCopy := .waiting, displayCopy := .running
             tipLevel := s.pins.tip != s.pen.active.tipInvert, tip := .up
             debounce :=
               if s.pins.tip != s.pen.active.tipInvert then
                 some { since := s.time, length := s.pen.active.tDB * 1000 }
               else none }
         menuMap := []
         gate :=
           { s.gate with
             shadow := none, gate := none, tally := [], dwell := .empty, hover := none, lastPick := none }
         loft := { s.loft with shadow := none, readout := none }
         tracker :=
           { s.tracker with
             shadow := none, state := .off, crossStruck := false, lossCount := 0,
             comparedLoss := s.tracker.active.lossLimit, lastReported := none, sightedThisFrame := false,
             sightedLastFrame := false, cross := none, writeBack := none }
         echo := { picked := none, item := none, text := none, readouts := [] }
         reports :=
           { s.reports with
             shadow := none, deferral := false,
             slots := List.replicate s.reports.slots.length .unknown, pointer := 0, sequence := 1,
             queue := [], gap := false, writeOut := none, attention := false }
         passage :=
           { s.passage with
             port := none, lockHeld := false, pairWritten := false, fairShare := 0, held := [] } }) ∧
  (∀ (v : BitVec 4) (s : State) (c : OwnCycle), s.passage.port = some c → s.passage.held = [] → s.moment = .empty →
     Settled s → ∃ t, exec (.busInit v) s = .next t ∧
       t.store = (match c with
         | .claim _ => s.store
         | .consumption a w | .writeBack a w | .fill a w | .owner a w =>
           Store.writeAt s.store a.toNat w) ∧
       t.pins.ma = c.addr ∧ t.pins.mcyc = .idle ∧ t.pins.bd = s.pins.bd ∧ t.pins.bwait = false ∧
       t.passage =
         { s.passage with port := none, lockHeld := false, pairWritten := false, fairShare := 0, held := [] } ∧
       ownRequests t = [] ∧ t.reports.ring = s.reports.ring ∧
       t.reports.slots = List.replicate s.reports.slots.length .unknown ∧ t.time = s.time) ∧
  (∀ (v : BitVec 4) (s t : State), s.passage.held = [] → s.moment ≠ .empty → Settled s →
     exec (.busInit v) (s.setMoment .empty) = .next t →
     ∃ i ≤ s.moment.echo.length, ∃ j ≤ s.moment.reports.length,
       let echoes := s.moment.echo.drop i
       let asked := s.moment.reports.drop j
       exec (.busInit v) s = .next
         { t with
           echo := echoes.foldl (fun u r =>
             match r with
             | .pick n => { u with picked := some n }
             | .item d => { u with
                 item := some { textAddr := d.textAddr, start := d.start, length := d.length, frames := 8 } }) t.echo
           reports := reportsAsked asked t
           moment := { echo := echoes, reports := asked }
           choices := s.choices + 1 }) ∧
  (∀ (v : BitVec 4) (a : Addr) (d : Word) (x y : Coord) (s : State), s.passage.resetInForce = false →
     s.moment.reports = [] → ResultsTaken s →
     ∀ p ∈ passingCommands a d x y,
       ∃ t, exec (.busInit v) (s.setPassage { s.passage with held := [] }) = .next t ∧
         exec (.busInit v) (s.setPassage { s.passage with held := [p.2] }) = exec p.1 t) ∧
  (∀ (v : BitVec 4) (a : Addr) (s : State), s.passage.resetInForce = false → NoticesTaken s →
     ∃ t, exec (.busInit v) (s.setPassage { s.passage with held := [.pRead a] }) = .next t ∧
       t.pins.bd = t.word a ∧ t.passage.held = [] ∧
       (t.passage.fairShare = 0 ∨ t.passage.fairShare = 1 ∧ ownRequests t ≠ [])) ∧
  (∀ (v : BitVec 4) (s : State) (q : Notices), s.passage.port = none → s.passage.held = [] → s.moment = .empty →
     s.passage.notices = q → ¬NoticesTaken s → ∃ t, exec (.busInit v) s = .next t ∧
       t.passage.notices.follower <:+ q.follower ∧ t.passage.notices.menuMap <:+ q.menuMap ∧
       t.passage.notices.pass <:+ q.pass ∧ t.passage.notices.tracker <:+ q.tracker ∧
       t.passage.notices.reports <:+ q.reports ∧
       t.follower.history = [] ∧ t.menuMap = [] ∧ t.pass.consumption = [] ∧ t.tracker.cross = none ∧
       t.tracker.writeBack = none ∧ t.reports.slots = List.replicate t.reports.slots.length .unknown) ∧
  (∀ (v : BitVec 4) (s : State) (winners : List Winner) (at_ : Time) (x y : Coord), s.passage.port = none →
     s.passage.held = [] → s.moment = .empty → NoticesTaken s →
     s.handed = { gate := winners, tracker := [.result at_ x y] } →
     let moved := (trackCross x y s).tracker
     ∃ t, exec (.busInit v) s = .next t ∧ ResultsTaken t ∧
       t.gate = { s.gate with
         shadow := none, gate := none, tally := [], dwell := .empty, hover := none, lastPick := none } ∧
       t.tracker.state = .off ∧
       ((t.tracker.tx = s.tracker.tx ∧ t.tracker.ty = s.tracker.ty) ∨
        (t.tracker.tx = moved.tx ∧ t.tracker.ty = moved.ty)))

/-- POWER_UP_RESET_END: with nothing waiting, PURST falls and nothing else; a P-read held meanwhile is then
answered (R169). -/
def Obligations.ResetEndServesTheHeldCycle : Prop :=
  ∀ s : State, s.passage.resetInForce = true → s.passage.port = none → Settled s →
    (s.passage.held = [] → exec .powerUpResetEnd s = .next
      { s with
        pins := { s.pins with bwait := false }
        passage := { s.passage with resetInForce := false, held := [] } }) ∧
    (∀ a, s.passage.held = [.pRead a] → s.passage.fairShare = 0 → exec .powerUpResetEnd s = .next
      { s with
        pins := { s.pins with bd := s.word a, ma := a, md := s.word a, mcyc := .idle, bwait := false }
        passage :=
          { s.passage with
            resetInForce := false, held := [], lockHeld := false, pairWritten := false
            fairShare := countAfterPassing s } })

/-! ### Passing cycles -/

/-- P_READ and LOCKED_P_READ: BD carries the stored word, the lock is left released or held, and nothing of the
part's account of the display file changes (R157, R158, R160, R166). -/
def Obligations.PReadAnswersStoredWord : Prop :=
  ∀ (a : Addr) (s : State), PassingGranted s →
    (exec (.pRead a) s = .next
      { s with
        pins := { s.pins with bd := s.word a, ma := a, md := s.word a, mcyc := .idle, bwait := false }
        passage :=
          { s.passage with lockHeld := false, pairWritten := false, fairShare := countAfterPassing s, held := [] } }) ∧
    (exec (.lockedPRead a) s = .next
      { s with
        pins := { s.pins with bd := s.word a, ma := a, md := s.word a, mcyc := .idle, bwait := false }
        passage :=
          { s.passage with lockHeld := true, pairWritten := false, fairShare := countAfterPassing s, held := [] } })

/-- P_WRITE and LOCKED_P_WRITE: the word is stored at `a` and nowhere else, and each of the five watchers has taken its
notice or has still to: once they all have, it has reached the Fetch History, the Menu Map, the Consumption List, the
cross order record and the write-back (R22, R44, R97, R143, R153, R157, R158, R160, R161). A locked write whose lock is
held is granted whatever the fair-share count, and the lock stays held until every watcher has taken the notice. A fetch
of the written address granted meanwhile comes before or after the notice at the Order Follower, the Menu Map and the
Tracking Unit, and each ends as its rule says of that order (R162). That several watchers take their notices in their
own time, each its oldest first, is the model's choice, assumption log 8. -/
def Obligations.PWriteStoresAndIsNoticed : Prop :=
  (∀ (a : Addr) (d : Word) (c : Instr) (s : State), Store.wf s.store →
    (c = .pWrite a d ∧ PassingGranted s) ∨
      (c = .lockedPWrite a d ∧ (PassingGranted s ∨ BusFree s ∧ s.passage.lockHeld = true)) →
    let notice : Notice := { addr := a, data := d }
    ∃ t, exec c s = .next t ∧
      (∀ b, t.word b = if b = a then d else s.word b) ∧ Store.wf t.store ∧
      t.pins = { s.pins with ma := a, md := d, mcyc := .idle, bwait := false } ∧
      TakenOrPending (·.follower) (·.follower) notice s t ∧ TakenOrPending (·.menuMap) (·.menuMap) notice s t ∧
      TakenOrPending (·.pass) (·.pass) notice s t ∧ TakenOrPending (·.tracker) (·.tracker) notice s t ∧
      TakenOrPending (·.reports) (·.reports) notice s t ∧
      t.passage.port = none ∧ t.passage.held = [] ∧
      (t.passage.lockHeld = true ↔ c = .lockedPWrite a d ∧ s.passage.lockHeld = true ∧ ¬NoticesTaken t) ∧
      t.time = s.time ∧ t.segments = s.segments ∧ t.pen = s.pen ∧ t.loft = s.loft ∧ t.echo = s.echo ∧
      t.handed = s.handed ∧ t.moment = s.moment ∧ t.pending = s.pending ∧
      let u := settleNotices t
      NoticesTaken u ∧ u.store = t.store ∧ u.pins = t.pins ∧ u.passage.port = none ∧ u.passage.lockHeld = false ∧
      u.follower = { s.follower with
        history := s.follower.history.map (fun e =>
          if inSpan a e.addr e.words then { e with edited := true } else e) } ∧
      u.menuMap = s.menuMap.map (fun e =>
        if inSpan a e.addr (1 + (e.count + 2) / 3) then { e with valid := false } else e) ∧
      u.pass = { s.pass with consumption := s.pass.consumption.filter (fun x => x.addr != a) } ∧
      u.tracker = { s.tracker with
        cross := s.tracker.cross.map (fun x => if x.addr = a then { x with substituted := false } else x)
        writeBack := s.tracker.writeBack.filter (fun b => b.addr != a) } ∧
      u.time = s.time ∧ u.segments = s.segments ∧ u.pen = s.pen ∧ u.loft = s.loft ∧ u.echo = s.echo ∧
      u.handed = s.handed ∧ u.moment = s.moment ∧ u.pending = s.pending) ∧
  (∀ (a : Addr) (x y : Coord) (n : Notice) (s : State), PortOpen s → s.passage.fairShare < 8 → n.addr = a →
    s.follower.follow = .following → s.follower.expected = some a → s.follower.inProgress = none →
    s.follower.transfer = none → s.follower.display = .running →
    (s.passage.notices = { Notices.none with follower := [n] } → decodeOrder (s.word a) = .line →
      ∃ t, exec (.dRead a x y) s = .next t ∧
        ∃ older e, (settleNotices t).follower.history = older ++ [e] ∧ e.addr = a ∧
          (e.edited = true ↔ t.passage.notices.follower = [n]) ∧
          (e.edited = false ↔ t.passage.notices.follower = [])) ∧
    (∀ size count separator trigger, s.passage.notices = { Notices.none with menuMap := [n] } →
      decodeOrder (s.word a) = .text size count → count ≠ 0 →
      (attributesOf s (nameNow s.follower)).classPart = .menu separator trigger →
      ∃ t, exec (.dRead a x y) s = .next t ∧
        ∃ older e, (settleNotices t).menuMap = older ++ [e] ∧ e.addr = a ∧
          (e.valid = false ↔ t.passage.notices.menuMap = [n]) ∧
          (e.valid = true ↔ t.passage.notices.menuMap = [])) ∧
    (∀ mx my, s.passage.notices = { Notices.none with tracker := [n] } →
      decodeOrder (s.word a) = .move mx my → s.tracker.state ≠ .off → s.tracker.active.crossName ≠ 0 →
      nameNow s.follower = s.tracker.active.crossName →
      (∀ c, s.tracker.cross = some c → c.addr = a ∨ c.fetchedThisFrame = false) →
      ∃ t, exec (.dRead a x y) s = .next t ∧
        ∃ c, (settleNotices t).tracker.cross = some c ∧ c.addr = a ∧
          (c.substituted = false ↔ t.passage.notices.tracker = [n]) ∧
          (c.substituted = true ↔ t.passage.notices.tracker = [])))

/-- A P-write within a valid Menu Map entry marks stale every Tally entry, and every part of the Dwell Record, that
was taken from that text, and removes a Hover Record of it; nothing else of the Gate Unit changes (R97, R106, R114,
R116). It does so once the watchers have taken the notice, and nothing before the Menu Map has (R162). Where an item
result on that text is still to be taken and casts a vote, either comes first: a result taken before the notice is
marked stale by it, and one taken after it clears the mark (R104, R106). -/
def Obligations.PWriteMarksStalePicks : Prop :=
  (∀ (a : Addr) (d : Word) (s : State), PassingGranted s →
    let hit : ItemDesc → Bool := fun i => s.menuMap.any (fun e =>
      e.valid && inSpan a e.addr (1 + (e.count + 2) / 3) && e.addr == i.textAddr)
    let mark : Snapshot → Snapshot := fun x => if x.item.any hit then { x with stale := true } else x
    ∃ t, exec (.pWrite a d) s = .next t ∧
      (t.passage.notices.menuMap ≠ [] → t.gate = s.gate ∧ t.passage.notices.gate = []) ∧
      (settleNotices t).gate = { s.gate with
        tally := s.gate.tally.map (fun e => { e with latest := mark e.latest })
        dwell := { s.gate.dwell with
          snapshot := s.gate.dwell.snapshot.map mark
          candidate := s.gate.dwell.candidate.map (fun x => (x.1, mark x.2)) }
        hover := s.gate.hover.filter (fun h => !hit h.item) }) ∧
  (∀ (a : Addr) (d : Word) (w : Winner) (i : ItemDesc) (e : MenuEntry) (g : OpenGate) (s : State),
    PortOpen s → NoticesTaken s → s.passage.fairShare < 8 → s.handed = { gate := [w], tracker := [] } →
    w.item = some i → e ∈ s.menuMap → e.addr = i.textAddr → e.valid = true →
    inSpan a e.addr (1 + (e.count + 2) / 3) = true →
    s.gate.gate = some g → (w.time - g.openTime).toNat < 8388608 →
    ∃ t, exec (.pWrite a d) s = .next t ∧
      (t.handed.gate = [] ∨ t.handed.gate = [w]) ∧
      (t.handed.gate = [] → ∀ x ∈ (settleNotices t).gate.tally, x.key = w.key → x.latest.stale = true) ∧
      (t.handed.gate = [w] → t.passage.notices.menuMap = [] → t.passage.notices.gate = [] →
        (∀ x ∈ t.gate.tally, x.latest.item = some i → x.latest.stale = true) ∧
        ∀ x ∈ (settleResults t).gate.tally, x.key = w.key → x.latest.stale = false))

/-- A P-write to the owner word of a slot, once the Report Writer has taken its notice. Where the write-out does not
hold it, zero makes it FREE and any other word OCCUPIED, and ATTENTION follows the WRITTEN slots. Where the write-out
holds it, a claim gives way to a nonzero word, a zero word lets a waiting write-out claim, a nonzero word contests a
filling one, and a zero word leaves a filling one as it is. A contest that finds an application deferred makes it: the
pending ring becomes active with every slot UNKNOWN, and the record in hand claims its slot 0 (R190, R191, R193, R194,
R195, R196, R197). -/
def Obligations.OwnerWordNoticeMovesTheSlot : Prop :=
  (∀ (i : Nat) (d : Word) (r : Ring) (s : State), PassingGranted s → ReportsSound s.reports →
     s.reports.ring = some r → i < r.slots →
     (∀ o, s.reports.writeOut = some o → o.slot ≠ i) →
     ∃ t, exec (.pWrite (slotAddr r i 0) d) s = .next t ∧
       (settleNotices t).reports = { s.reports with
         slots := s.reports.slots.set i (if d = 0 then .free else .occupied)
         attention := (s.reports.slots.set i (if d = 0 then .free else .occupied)).any (· == .written) }) ∧
  (∀ (d : Word) (r : Ring) (o : WriteOut) (s : State), PassingGranted s → ReportsSound s.reports →
     s.reports.ring = some r → s.reports.writeOut = some o → s.reports.deferral = false →
     ∃ v, exec (.pWrite (slotAddr r o.slot 0) d) s = .next v ∧
       let t := settleNotices v
       t.reports.queue = s.reports.queue ∧ t.reports.sequence = s.reports.sequence ∧
       t.reports.pointer = s.reports.pointer ∧
       (match o.step with
         | .claim =>
           (d = 0 → t.reports.slotState o.slot = .free ∧ t.reports.writeOut = some o) ∧
           (d ≠ 0 → t.reports.slotState o.slot = .occupied ∧
             t.reports.writeOut = some { o with step := .waiting })
         | .waiting =>
           (d = 0 → t.reports.slotState o.slot = .free ∧
             t.reports.writeOut = some { o with step := .claim }) ∧
           (d ≠ 0 → t.reports.slotState o.slot = .occupied ∧ t.reports.writeOut = some o)
         | .filling _ | .publish =>
           (d = 0 → t.reports = s.reports) ∧
           (d ≠ 0 → t.reports.slotState o.slot = .occupied ∧
             t.reports.writeOut = some { o with step := .waiting }))) ∧
  (∀ (d : Word) (r pending : Ring) (o : WriteOut) (s : State), PassingGranted s → ReportsSound s.reports →
     s.reports.ring = some r → s.reports.writeOut = some o → s.reports.deferral = true →
     s.reports.shadow = some pending →
     ∃ v, exec (.pWrite (slotAddr r o.slot 0) d) s = .next v ∧
       let t := settleNotices v
       (d = 0 → t.reports = s.reports) ∧
       (d ≠ 0 → t.reports = { s.reports with
         ring := some pending, shadow := none, deferral := false
         slots := List.replicate pending.slots .unknown, pointer := 0, attention := false
         writeOut := some { o with slot := 0, step := .claim } }))

/-- IDLE_CYCLE with no cycle waiting releases the lock, and does nothing else (R160). A cycle presented while an own
cycle is in progress or the power-up reset is in force waits in BWAIT, and nothing else changes (R157, R162, R169). -/
def Obligations.IdleAndWaitingCycles : Prop :=
  (∀ s : State, s.passage.held = [] → exec .idleCycle s = .next
     { s with
       pins := { s.pins with bwait := false }
       passage := { s.passage with lockHeld := false, pairWritten := false, held := [] } }) ∧
  (∀ (a : Addr) (d : Word) (x y : Coord) (s : State),
     s.passage.port ≠ none ∨ s.passage.resetInForce = true → s.passage.held = [] →
     ∀ p ∈ passingCommands a d x y,
       exec p.1 s = .next
         { s with pins := { s.pins with bwait := true }, passage := { s.passage with held := [p.2] } })

/-- At a fair-share count of 8 a presented cycle waits while the first own request is granted, unless the lock is held
for the locked P-write presented (R160, R165, R166, R167). A cycle presented while notices are being taken is passed
over only once every watcher has taken them, and is otherwise granted itself (R162, R165); how many are taken by then is
free (assumption logs 2 and 8). -/
def Obligations.FairShareGrantsOneOwnCycle : Prop :=
  (∀ (a : Addr) (d : Word) (x y : Coord) (c : OwnCycle) (rest : List OwnCycle) (s : State),
    BusFree s → s.passage.fairShare = 8 → ownRequests s = c :: rest →
    ∀ p ∈ passingCommands a d x y,
      p.1 ≠ .lockedPWrite a d ∨ s.passage.lockHeld = false ∧ s.passage.pairWritten = false →
      ∃ t, exec p.1 s = .next t ∧
        t.passage =
          { s.passage with
            port := some c, lockHeld := false, pairWritten := false, fairShare := 0, held := [p.2] } ∧
        t.pins = { c.pins s.pins with bwait := true } ∧
        t.store = s.store ∧ t.follower = s.follower ∧ t.pass = s.pass ∧ t.reports = s.reports ∧
        t.gate = s.gate ∧ t.menuMap = s.menuMap ∧ t.time = s.time) ∧
  (∀ (a : Addr) (s : State), PortOpen s → ¬Settled s → ∃ t, exec (.pRead a) s = .next t ∧
    (t.passage.port ≠ none → NoticesTaken t ∧ t.passage.held = [.pRead a] ∧ t.pins.bwait = true) ∧
    (t.passage.port = none → t.pins.bd = s.word a ∧ t.passage.held = [] ∧ t.pins.bwait = false))

/-! ### The part's own cycles -/

/-- OWN_CYCLE_GRANT at a free port with no cycle presented: the oldest consumption write first, then the write-back,
then the write-out's cycle; the array side shows the cycle, the count returns to 0, and at most five requests stand
before the write-out's (R164, R166, R167). That a claim read settles the requests of its moment up to its own record is
the model's choice, assumption log 22. A grant finds every notice taken (R162); that the command stands for a grant
after the last of them is the model's choice, assumption log 8. -/
def Obligations.OwnCycleGrantFollowsTheOrder : Prop :=
  (∀ s : State, PortOpen s → NoticesTaken s → s.passage.lockHeld = false →
    let granted := fun (c : OwnCycle) =>
      { s with
        pins := c.pins s.pins
        passage := { s.passage with port := some c, fairShare := 0 } }
    (∀ e l, s.pass.consumption = e :: l →
      exec .ownCycleGrant s = .next (granted (.consumption e.addr (consumptionWord e.extra)))) ∧
    (∀ b, s.pass.consumption = [] → s.tracker.writeBack = some b → b.granted = false →
      exec .ownCycleGrant s = .next ((granted (.writeBack b.addr b.word)).setTracker
        { s.tracker with writeBack := some { b with granted := true } })) ∧
    (∀ c, s.pass.consumption = [] → s.tracker.writeBack = none → writeOutRequest s.reports = some c →
      ∃ l, l <:+ s.moment.reports ∧ ((∀ a, c ≠ .claim a) → l = s.moment.reports) ∧
        exec .ownCycleGrant s = .next ((granted c).setMoment { s.moment with reports := l })) ∧
    (s.pass.consumption = [] → s.tracker.writeBack = none → writeOutRequest s.reports = none →
      exec .ownCycleGrant s = .next s) ∧
    (ConsumptionSound s.pass.consumption → ∀ c, writeOutRequest s.reports = some c →
      ∃ l, ownRequests s = l ++ [c] ∧ l.length ≤ 5)) ∧
  (∀ s : State, PortOpen s → ¬NoticesTaken s →
    let t := settleNotices s
    NoticesTaken t ∧ t.choices = s.choices ∧ t.handed = s.handed ∧
    (t.passage.lockHeld = false → ownRequests t ≠ [] → exec .ownCycleGrant s = exec .ownCycleGrant t) ∧
    (t.passage.lockHeld = true ∨ ownRequests t = [] → exec .ownCycleGrant s = .next s))

/-- CONSUMPTION_WRITE_PLACED and WRITE_BACK_PLACED with no bus cycle waiting: the word stands in the store, and the
request has left its owner (R45, R153, R164). The bus cycles held in BWAIT behind that cycle are carried as it
completes, the fair-share count rising with an own request outstanding (R157, R165, R166). That some strike results may
be taken before a held cycle is the model's choice, assumption log 25. -/
def Obligations.OwnWritesOfOrdersArePlaced : Prop :=
  (∀ (a : Addr) (w : Word) (s : State), s.passage.held = [] →
    (s.passage.port = some (.consumption a w) → exec .consumptionWritePlaced s = .next
      { s with
        store := Store.writeAt s.store a.toNat w
        pins := { s.pins with ma := a, md := w, mcyc := .idle, bwait := false }
        pass := { s.pass with consumption := s.pass.consumption.filter (fun e => e.addr != a) }
        passage := { s.passage with port := none, held := [] } }) ∧
    (∀ b, s.passage.port = some (.writeBack a w) → s.tracker.writeBack = some b →
      exec .writeBackPlaced s = .next
        { s with
          store := Store.writeAt s.store a.toNat w
          pins := { s.pins with ma := a, md := w, mcyc := .idle, bwait := false }
          tracker := { s.tracker with writeBack := if b.granted then none else some b }
          passage := { s.passage with port := none, held := [] } })) ∧
  (∀ (a : Addr) (w : Word) (s : State), s.passage.resetInForce = false →
    (s.passage.port = some (.consumption a w) → HeldCyclesFollow .consumptionWritePlaced false s) ∧
    (s.passage.port = some (.writeBack a w) → HeldCyclesFollow .writeBackPlaced false s))

/-- CLAIM_READ_COMPLETE with no bus cycle waiting: a zero owner word claims the slot and the fill begins, any other
makes it OCCUPIED and the write-out waits (R164, R190). The bus cycles held in BWAIT behind the read are carried as it
completes (R157, R165, R166); whether the write-out's next request counts for the fair-share count then is free (R168,
assumption log 2), and some strike results may be taken before a held cycle (assumption log 25). -/
def Obligations.ClaimReadSettlesTheSlot : Prop :=
  (∀ (r : Ring) (o : WriteOut) (s : State), s.passage.held = [] → s.reports.ring = some r →
    s.reports.writeOut = some o → o.step = .claim →
    s.passage.port = some (.claim (slotAddr r o.slot 0)) →
    exec .claimReadComplete s = .next
      { s with
        pins := { s.pins with
          ma := slotAddr r o.slot 0, md := s.word (slotAddr r o.slot 0), mcyc := .idle, bwait := false }
        reports :=
          if s.word (slotAddr r o.slot 0) = 0 then
            { s.reports with
              slots := s.reports.slots.set o.slot .filling
              attention := (s.reports.slots.set o.slot .filling).any (· == .written)
              writeOut := some { o with step := .filling 1 } }
          else
            { s.reports with
              slots := s.reports.slots.set o.slot .occupied
              attention := (s.reports.slots.set o.slot .occupied).any (· == .written)
              writeOut := some { o with step := .waiting } }
        passage := { s.passage with port := none, held := [] }
        choices := s.choices + 1 }) ∧
  (∀ (a : Addr) (s : State), s.passage.resetInForce = false → s.passage.port = some (.claim a) →
    HeldCyclesFollow .claimReadComplete true s)

/-- With no bus cycle waiting. FILL_WRITE_PLACED: the word stands in the store, and the next word, or after word 15 the
owner word, is offered. OWNER_WORD_WRITE_PLACED with no application deferred: the slot is WRITTEN, ATTENTION is
asserted, the sequence number and the pointer advance, and the oldest queued record is claimed for. With one deferred
the pending ring becomes active after the publication, every slot UNKNOWN, and that record claims its slot 0. The words
offered stand at the slot's addresses and hold the record's fields at the bits of 12.3, every other bit 0 (R164, R189,
R192, R195, R196, R197, R200). The bus cycles held in BWAIT behind a write are carried as it is placed (R157, R165,
R166); whether the write-out's next request counts for the fair-share count then is free (R168, assumption log 2), and
some strike results may be taken before a held cycle (assumption log 25). -/
def Obligations.FillAndPublishTheReport : Prop :=
  (∀ (a : Addr) (w : Word) (k : Nat) (o : WriteOut) (s : State), s.passage.held = [] →
     s.reports.writeOut = some o → o.step = .filling k → s.passage.port = some (.fill a w) →
     exec .fillWritePlaced s = .next
       { s with
         store := Store.writeAt s.store a.toNat w
         pins := { s.pins with ma := a, md := w, mcyc := .idle, bwait := false }
         reports := { s.reports with
           writeOut := some { o with step := if k < 15 then .filling (k + 1) else .publish } }
         passage := { s.passage with port := none, held := [] }
         choices := s.choices + 1 }) ∧
  (∀ (a : Addr) (w : Word) (r : Ring) (o : WriteOut) (s : State), s.passage.held = [] →
     ReportsSound s.reports → s.reports.ring = some r → s.reports.writeOut = some o → o.step = .publish →
     s.reports.deferral = false → s.passage.port = some (.owner a w) →
     let pointer := if s.reports.pointer + 1 < r.slots then s.reports.pointer + 1 else 0
     let slots := s.reports.slots.set o.slot .written
     exec .ownerWordWritePlaced s = .next
       { s with
         store := Store.writeAt s.store a.toNat w
         pins := { s.pins with ma := a, md := w, mcyc := .idle, bwait := false }
         reports := { s.reports with
           slots := slots
           attention := true
           sequence := if s.reports.sequence = 255 then 1 else s.reports.sequence + 1
           pointer := pointer
           queue := s.reports.queue.tail
           writeOut := s.reports.queue.head?.map (fun q =>
             { report := q, slot := pointer
               step := match slots.getD pointer .unknown with
                 | .occupied | .written => .waiting
                 | .unknown | .free | .filling => .claim }) }
         passage := { s.passage with port := none, held := [] }
         choices := s.choices + 1 }) ∧
  (∀ (a : Addr) (w : Word) (r pending : Ring) (o : WriteOut) (s : State), s.passage.held = [] →
     ReportsSound s.reports → s.reports.ring = some r → s.reports.writeOut = some o → o.step = .publish →
     s.reports.deferral = true → s.reports.shadow = some pending → s.passage.port = some (.owner a w) →
     ∃ t, exec .ownerWordWritePlaced s = .next t ∧
       t.store = Store.writeAt s.store a.toNat w ∧
       t.pins = { s.pins with ma := a, md := w, mcyc := .idle, bwait := false } ∧
       t.reports = { s.reports with
         ring := some pending, shadow := none, deferral := false
         slots := List.replicate pending.slots .unknown, pointer := 0, attention := false
         sequence := if s.reports.sequence = 255 then 1 else s.reports.sequence + 1
         queue := s.reports.queue.tail
         writeOut := s.reports.queue.head?.map (fun q => { report := q, slot := 0, step := .claim }) } ∧
       t.passage.port = none ∧ t.passage.held = [] ∧ t.time = s.time) ∧
  (∀ (a : Addr) (w : Word) (s : State), s.passage.resetInForce = false →
     (s.passage.port = some (.fill a w) → HeldCyclesFollow .fillWritePlaced true s) ∧
     (s.passage.port = some (.owner a w) → HeldCyclesFollow .ownerWordWritePlaced true s)) ∧
  (∀ (r : Ring) (o : WriteOut) (w : ReportWriter), w.ring = some r → w.writeOut = some o →
     (∀ k, o.step = .filling k → writeOutRequest w =
       some (.fill (r.base + BitVec.ofNat 18 (16 * o.slot + k)) (o.report.word k))) ∧
     (o.step = .publish → writeOutRequest w =
       some (.owner (r.base + BitVec.ofNat 18 (16 * o.slot)) (ownerWord w.sequence o.report.kind)))) ∧
  (∀ r : Report,
     (∀ i < 10, [r.flags.gap, r.flags.ambiguous, r.flags.crowded, r.flags.edited, r.flags.stale, r.flags.locked,
       r.flags.dwell, r.flags.stopped, r.flags.lost, r.flags.reacquired][i]? =
         some ((r.word 1).getLsbD (23 - i))) ∧
     (r.word 1).extractLsb' 12 2 = (match r.side with | .none => 0 | .fore => 1 | .aft => 2) ∧
     (r.path.length ≤ 8 → ((r.word 1).extractLsb' 8 4).toNat = r.path.length) ∧
     (r.word 1).extractLsb' 0 8 = r.frame.extractLsb' 0 8 ∧
     (r.word 2).extractLsb' 12 12 = r.name.getD 0 ∧ (r.word 2).extractLsb' 7 5 = 0 ∧
     (r.word 2).getLsbD 6 = r.item.isSome ∧
     (r.item.getD 0 < 64 → ((r.word 2).extractLsb' 0 6).toNat = r.item.getD 0) ∧
     (r.word 3).getLsbD 23 = r.orderAddr.isSome ∧ (r.word 3).extractLsb' 18 5 = 0 ∧
     (r.word 3).extractLsb' 0 18 = r.orderAddr.getD 0 ∧
     (r.loft = none → r.word 4 = 0 ∧ r.word 5 = 0) ∧
     (∀ p, r.loft = some p → |p.1| < 8388608 → |p.2| < 8388608 →
       (r.word 4).toInt = p.1 ∧ (r.word 5).toInt = p.2) ∧
     (r.word 6).extractLsb' 20 4 = 0 ∧ (r.word 6).extractLsb' 10 10 = (r.sample.getD (0, 0)).1 ∧
     (r.word 6).extractLsb' 0 10 = (r.sample.getD (0, 0)).2 ∧
     (r.word 7).extractLsb' 16 8 = 0 ∧
     (r.winnerVotes < 256 → ((r.word 7).extractLsb' 8 8).toNat = r.winnerVotes) ∧
     (r.runnerVotes < 256 → ((r.word 7).extractLsb' 0 8).toNat = r.runnerVotes) ∧
     (r.runner = none → r.word 8 = 0) ∧
     (∀ k, r.runner = some k → (r.word 8).extractLsb' 12 12 = k.name ∧ (r.word 8).extractLsb' 7 5 = 0 ∧
       (r.word 8).getLsbD 6 = k.item.isSome ∧
       (k.item.getD 0 < 64 → ((r.word 8).extractLsb' 0 6).toNat = k.item.getD 0)) ∧
     (r.word 9).extractLsb' 16 8 = 0 ∧
     ((r.itemSpan.getD (0, 0)).1 < 256 →
       ((r.word 9).extractLsb' 8 8).toNat = (r.itemSpan.getD (0, 0)).1) ∧
     ((r.itemSpan.getD (0, 0)).2 < 256 →
       ((r.word 9).extractLsb' 0 8).toNat = (r.itemSpan.getD (0, 0)).2) ∧
     (r.word 10).extractLsb' 8 16 = 0 ∧
     (r.code.getD 0 < 256 → ((r.word 10).extractLsb' 0 8).toNat = r.code.getD 0) ∧
     (∀ k < 4, (r.word (11 + k)).extractLsb' 12 12 = r.path.getD (2 * k) 0 ∧
       (r.word (11 + k)).extractLsb' 0 12 = r.path.getD (2 * k + 1) 0) ∧
     r.word 15 = r.stamp) ∧
  (∀ (n : Nat) (kind : ReportKind),
     (ownerWord n kind).extractLsb' 16 8 = 0 ∧ (ownerWord n kind).extractLsb' 4 4 = 0 ∧
     (n < 256 → ((ownerWord n kind).extractLsb' 8 8).toNat = n) ∧
     ((ownerWord n kind).extractLsb' 0 4).toNat =
       (match kind with
         | .pick => 1 | .item => 2 | .miss => 3 | .track => 4 | .trackEnd => 5 | .trackLost => 6
         | .refusal => 7 | .condition => 8 | .mark => 9))

/-! ### Fetches -/

/-- D_READ at the expected address. A LINE, a DOT or a visible STEP outside a slot, the display RUNNING: one history
entry under the effective name and path, the next address expected, and the stored word delivered. A TEXT of at least
one character, the display RUNNING: its history entry and its order record, its text record with the readout flag, and
under a MENU name its Menu Map entry, built anew at the newest end. An operand word of a TEXT: three more characters
of the newest entry fetched, and under a MENU name scanned into the entry whose build they continue. A MOVE outside a
slot, the display RUNNING: under the cross name its cross order record, and while a run goes on the position in the
recorded one (R8, R20, R21, R25, R94, R95, R96, R142, R159, R171, R178, R179). -/
def Obligations.FetchEntersAVisibleOrder : Prop :=
  (∀ (a : Addr) (x y : Coord) (k : VisibleKind) (s : State), PassingGranted s →
     s.follower.follow = .following → s.follower.expected = some a → s.follower.inProgress = none →
     s.follower.transfer = none → s.follower.display = .running → s.follower.history.length ≤ 16 →
     (decodeOrder (s.word a), k) ∈ [(Order.line, VisibleKind.line), (.dot, .dot), (.step true, .step)] →
     let entry : HistoryEntry :=
       { addr := a, kind := k, fetchTime := s.time, name := nameNow s.follower,
         path := pathNow s.follower, edited := false, text := none }
     exec (.dRead a x y) s = .next
       { s with
         pins := { s.pins with
           defx := x, defy := y, bd := s.word a, ma := a, md := s.word a, mcyc := .idle, bwait := false }
         follower := { s.follower with
           history :=
             if s.follower.history.length < 16 then s.follower.history ++ [entry]
             else s.follower.history.tail ++ [entry]
           expected := some (a + 1) }
         echo := { s.echo with text := none }
         passage :=
           { s.passage with lockHeld := false, pairWritten := false, fairShare := countAfterPassing s, held := [] } }) ∧
  (∀ (a : Addr) (x y : Coord) (size : BitVec 2) (n : Nat) (s : State), PassingGranted s →
     s.follower.follow = .following → s.follower.expected = some a → s.follower.inProgress = none →
     s.follower.display = .running → s.follower.history.length ≤ 16 →
     decodeOrder (s.word a) = .text size n → n ≠ 0 →
     let name := nameNow s.follower
     let menu := match (attributesOf s name).classPart with | .menu _ _ => true | _ => false
     let pitch := match size.toNat with | 0 => 7 | 1 => 10 | 2 => 14 | _ => 20
     let entry : HistoryEntry :=
       { addr := a, kind := .text, fetchTime := s.time, name := name, path := pathNow s.follower
         edited := false, text := some { startX := x, pitch := pitch, count := n, fetched := 0, menu := menu } }
     let others := s.menuMap.filter (fun e => e.addr != a)
     let listed := s.echo.readouts.find? (fun e => e.1 == name)
     let readout :=
       (match (attributesOf s name).classPart with | .readout _ => true | _ => false) &&
       (match listed with | some e => e.2 == a | none => decide (s.echo.readouts.length < 8))
     exec (.dRead a x y) s = .next
       { s with
         pins := { s.pins with
           defx := x, defy := y, bd := s.word a, ma := a, md := s.word a, mcyc := .idle, bwait := false }
         follower := { s.follower with
           history :=
             if s.follower.history.length < 16 then s.follower.history ++ [entry]
             else s.follower.history.tail ++ [entry]
           inProgress := some
             { addr := a, order := .text size n, words := 1 + (n + 2) / 3, fetched := 1
               stored := [s.word a], name := name, path := pathNow s.follower, menu := menu }
           expected := some (a + 1) }
         menuMap :=
           match (attributesOf s name).classPart with
           | .menu separator _ =>
             (if others.length < 16 then others else others.tail) ++
               [{ addr := a, name := name, count := n, separator := separator, scanned := 0
                  items := [{ start := 0, length := 0 }], valid := true }]
           | _ => s.menuMap
         echo := { s.echo with
           text := some { addr := a, count := n, name := name, readout := readout }
           readouts :=
             if readout = true ∧ listed = none then s.echo.readouts ++ [(name, a)] else s.echo.readouts }
         passage :=
           { s.passage with lockHeld := false, pairWritten := false, fairShare := countAfterPassing s, held := [] } }) ∧
  (∀ (a : Addr) (x y : Coord) (size : BitVec 2) (n : Nat) (p : InProgress) (s : State), PassingGranted s →
     s.follower.follow = .following → s.follower.expected = some a → s.follower.inProgress = some p →
     p.order = .text size n → n ≠ 0 → 1 ≤ p.fetched → s.follower.transfer = none →
     let scan := fun (e : MenuEntry) (g : Glyph) =>
       if e.count ≤ e.scanned then e
       else if g = e.separator ∧ e.items.length < 64 then
         { e with
           items := e.items ++ [{ start := e.scanned + 1, length := 0 }]
           scanned := e.scanned + 1 }
       else
         { e with
           items := e.items.dropLast ++ e.items.getLast?.toList.map (fun i => { i with length := i.length + 1 })
           scanned := e.scanned + 1 }
     let w := s.word a
     ∃ t, exec (.dRead a x y) s = .next t ∧
       t.follower = { s.follower with
         history := t.follower.history
         inProgress :=
           if p.fetched + 1 = p.words then none
           else some { p with fetched := p.fetched + 1, stored := p.stored ++ [w] }
         expected := some (a + 1) } ∧
       (s.follower.history = [] → t.follower.history = []) ∧
       (∀ before e, s.follower.history = before ++ [e] →
         t.follower.history = before ++
           [{ e with text := e.text.map (fun c => { c with fetched := min c.count (c.fetched + 3) }) }]) ∧
       t.menuMap =
         (if p.menu then
           s.menuMap.map (fun e =>
             if e.addr = p.addr ∧ e.scanned = 3 * (p.fetched - 1) then
               scan (scan (scan e (w.extractLsb' 16 7)) (w.extractLsb' 8 7)) (w.extractLsb' 0 7)
             else e)
         else s.menuMap) ∧
       t.echo = s.echo ∧ t.pass = s.pass ∧ t.segments = s.segments ∧ t.pen = s.pen ∧ t.gate = s.gate ∧
       t.tracker = s.tracker ∧ t.reports = s.reports ∧ t.store = s.store ∧ t.time = s.time) ∧
  (∀ (a : Addr) (x y mx my : Coord) (s : State), PassingGranted s →
     s.follower.follow = .following → s.follower.expected = some a → s.follower.inProgress = none →
     s.follower.transfer = none → s.follower.display = .running → decodeOrder (s.word a) = .move mx my →
     let name := nameNow s.follower
     let running := s.tracker.state != .off
     let fresh : CrossRecord := { addr := a, word := s.word a, fetchedThisFrame := true, substituted := running }
     let record :=
       match s.tracker.cross with
       | none => fresh
       | some c =>
         if c.fetchedThisFrame = false then fresh
         else if c.addr = a then { c with word := s.word a, substituted := running }
         else c
     let cross :=
       if s.tracker.active.crossName ≠ 0 ∧ name = s.tracker.active.crossName then some record
       else s.tracker.cross
     let shown :=
       if s.tracker.state ≠ .off ∧ cross.map (·.addr) = some a ∧ name = s.tracker.active.crossName then
         (s.word a).extractLsb' 20 4 ++ s.tracker.tx ++ s.tracker.ty
       else s.word a
     exec (.dRead a x y) s = .next
       { s with
         pins := { s.pins with
           defx := x, defy := y, bd := shown, ma := a, md := s.word a, mcyc := .idle, bwait := false }
         follower := { s.follower with expected := some (a + 1) }
         tracker := { s.tracker with cross := cross }
         echo := { s.echo with text := none }
         passage :=
           { s.passage with lockHeld := false, pairWritten := false, fairShare := countAfterPassing s, held := [] } })

/-- A fetch at any address but the expected one sends FOLLOWING to LOST with one DECODE-LOST report. A fetch in WAITING
or LOST away from the candidate changes nothing but the candidate. Both are delivered as stored, and a RESTART's target
becomes the candidate (R6, R8, R9, R23, R171). The Pen Front End's copies take the change within the microsecond
(assumption log 20). -/
def Obligations.FetchOutsideTheAccount : Prop :=
  (∀ (a : Addr) (x y : Coord) (s : State), PassingGranted s →
     s.follower.follow = .following → s.follower.expected ≠ some a →
     ∃ t, exec (.dRead a x y) s = .next t ∧
       t.follower = { s.follower with
         follow := .lost, rootName := 0, pushed := [], transfer := none, inProgress := none,
         expected := none, history := []
         resync := match decodeOrder (s.word a) with
           | .restart target => some target
           | _ => none } ∧
       t.pen = s.pen ∧
       t.reports = (requestReport
         { kind := .condition, frame := s.follower.frameNo, stamp := s.time, orderAddr := some a,
           code := some 4 } s).reports ∧
       t.pins.bd = s.word a ∧ t.store = s.store ∧ t.pass = s.pass ∧ t.segments = s.segments ∧
       t.menuMap = s.menuMap ∧ t.gate = s.gate ∧ t.loft = s.loft ∧ t.tracker = s.tracker ∧
       t.echo = s.echo ∧ t.time = s.time ∧ t.choices = s.choices) ∧
  (∀ (a : Addr) (x y : Coord) (s : State), PassingGranted s →
     s.follower.follow ≠ .following → s.follower.resync ≠ some a →
     exec (.dRead a x y) s = .next
       { s with
         pins := { s.pins with
           defx := x, defy := y, bd := s.word a, ma := a, md := s.word a, mcyc := .idle, bwait := false }
         follower := { s.follower with
           resync := match decodeOrder (s.word a) with
             | .restart target => some target
             | _ => none }
         passage :=
           { s.passage with lockHeld := false, pairWritten := false, fairShare := countAfterPassing s, held := [] } })

/-- A fetch at the candidate is a resync: a frame end is made with the context at level 0 and name 0, and the fetched
word is then followed by the rules for FOLLOWING (R6, R7, R14, R15, R27). A visible order enters the Fetch History under
name 0 and path (0) (R21), a JUMP or CALL is noted, an order of several words is opened, a NAME renames level 0, a
one-word PASS is handed over, a RETURN underflows, and a RESTART makes its own frame end (R5, R10, R13, R18, R19, R24).
The Pen Front End's copies take the change within the microsecond (assumption log 20). -/
def Obligations.ResyncFollowsAndEndsAFrame : Prop :=
  ∀ (a : Addr) (x y : Coord) (s : State), PassingGranted s → FollowerSound s.follower →
    TrackerSound s.tracker → s.follower.follow ≠ .following → s.follower.resync = some a →
    let w := s.word a
    let o := decodeOrder w
    let entry := fun (k : VisibleKind) (text : Option TextPart) => ({
      addr := a, kind := k, fetchTime := s.time, name := 0, path := [0], edited := false, text := text } : HistoryEntry)
    ∃ u t, exec (.dRead a x y) s = .next t ∧ FrameEnded none s u ∧ t.pins.bd = w ∧ t.store = s.store ∧
      t.menuMap = s.menuMap ∧ t.time = s.time ∧
      t.pen.followCopy = s.pen.followCopy ∧ t.pen.displayCopy = s.pen.displayCopy ∧
      ((∀ target, o ≠ .restart target) → o ≠ .ret → (∀ e subtype payload, o ≠ .pass e subtype payload) →
        SameUnits u t ∧
        t.follower = { u.follower with
          history :=
            match o with
            | .line => [entry .line none]
            | .dot => [entry .dot none]
            | .step true => [entry .step none]
            | .text size (n + 1) => [entry .text (some
                { startX := x, count := n + 1, fetched := 0, menu := false
                  pitch := match size.toNat with | 0 => 7 | 1 => 10 | 2 => 14 | _ => 20 })]
            | _ => []
          transfer :=
            match o with
            | .jump target => some (.jump target)
            | .call target hides => some (.call target hides)
            | _ => none
          inProgress :=
            match o with
            | .text _ (n + 1) => some
                { addr := a, order := o, words := 1 + (n + 3) / 3, fetched := 1, stored := [w], name := 0, path := [0]
                  menu := false }
            | _ => none
          expected := some (a + 1) }) ∧
      (∀ e subtype payload, o = .pass e subtype payload →
        (e = 0 → SameUnits (handOff a 0 subtype payload [w] (atHandOff subtype payload u)) t ∧
          t.follower.rootName = (if subtype = 1 then payload else 0) ∧ t.follower.inProgress = none) ∧
        (e ≠ 0 → SameUnits u t ∧ t.follower.rootName = 0 ∧ t.follower.inProgress = some
          { addr := a, order := o, words := 1 + e, fetched := 1, stored := [w], name := 0, path := [0]
            menu := false }) ∧
        t.follower.follow = .following ∧ t.follower.pushed = [] ∧ t.follower.transfer = none ∧
        t.follower.history = [] ∧ t.follower.frameNo = s.follower.frameNo + 1 ∧ t.follower.expected = some (a + 1)) ∧
      (o = .ret → t.follower = { u.follower with follow := .lost } ∧ t.pass = u.pass ∧ t.segments = u.segments ∧
        t.pen = u.pen ∧ t.gate = u.gate ∧ t.loft = u.loft ∧ t.tracker = u.tracker ∧ t.echo = u.echo ∧
        t.reports = (requestReport
          { kind := .condition, frame := s.follower.frameNo + 1, stamp := s.time, orderAddr := some a
            code := some 6 } u).reports) ∧
      (∀ target, o = .restart target → FrameEnded (some target) u t)

/-- A RESTART followed at the expected address: the context is emptied, its target expected, and a frame end made at
every block; the Fetch History, the store and the Menu Map stay (R13, R14, R15, R34, R59, R60, R76, R123, R181). The
Pen Front End's settings, levels, repetition and debounce intervals and inhibit latch are as R76 says of them, and its
last-strike record and tip state stay (R69, R73, R76); a changed box takes the position into it (R150). An
OPEN gate below its length counts the frame (R108), a dwell counts, moves or ends (R114), the hover stays while it was
won (R117), the sightings roll, a run counts its frames without a strike, and the cross order record waits for the
next frame (R149, R150). With no gate, dwell or run to report, a pending ring is applied, or deferred while a report
is being filled (R196, R197), and a STOPPED display is reported as resumed (R27). With no pick at that frame end the
picked-segment echo ends exactly when its name is dropped (R61, R174). The reports of a gate, a dwell and a
run at a frame end: GateClosesByLength, DwellIsReportedOnce, LossAndEchoLimits. -/
def Obligations.RestartEndsAFrame : Prop :=
  ∀ (a target : Addr) (x y : Coord) (s : State), AtRestart a target s →
    let hoverOn := (s.gate.shadow.getD s.gate.active).hover
    let d := s.gate.dwell
    let missed := if s.tracker.crossStruck then 0 else min 15 (s.tracker.lossCount + 1)
    ∃ t, exec (.dRead a x y) s = .next t ∧
      FrameEnded (some target) s t ∧ t.follower.history = s.follower.history ∧
      t.pen.lastStrike = s.pen.lastStrike ∧ t.pen.tip = s.pen.tip ∧
      t.pins.bd = s.word a ∧ t.choices = s.choices + 1 ∧
      (∀ g, s.gate.gate = some g → g.frameCount + 1 < s.gate.active.length →
        t.gate.gate = some { g with
          frameCount := g.frameCount + 1, comparedLength := s.gate.active.length } ∧
        t.gate.tally = s.gate.tally ∧ t.gate.dwell = d ∧ t.gate.lastPick = s.gate.lastPick) ∧
      (s.gate.gate = none → t.gate.gate = none ∧
        (d.won = true → d.spent = true →
          t.gate.dwell = { d with won := false, candidate := none, comparedDwell := s.gate.active.dwell }) ∧
        (d.won = true → d.spent = false → d.count + 1 < s.gate.active.dwell →
          t.gate.dwell = { d with
            count := d.count + 1, won := false, candidate := none, comparedDwell := s.gate.active.dwell }) ∧
        (∀ key snap, d.won = false → d.candidate = some (key, snap) → 2 ≤ s.gate.active.dwell →
          t.gate.dwell =
            { key := some key, count := 1, spent := false, won := false, snapshot := some snap, candidate := none
              comparedDwell := s.gate.active.dwell }) ∧
        (d.won = false → d.candidate = none → t.gate.dwell =
          { key := none, count := 0, spent := false, won := false, snapshot := none, candidate := none
            comparedDwell := 0 })) ∧
      t.gate.hover = s.gate.hover.bind (fun h =>
        if h.won = true ∧ hoverOn = true then some { h with won := false } else none) ∧
      (GateQuiet s ∨ (∃ g, s.gate.gate = some g ∧ g.frameCount + 1 < s.gate.active.length) →
        t.echo.picked = s.echo.picked.filter (fun n =>
          !s.segments.entries.any (fun e => e.dropPending && e.name == n))) ∧
      t.tracker.sightedLastFrame = s.tracker.sightedThisFrame ∧ t.tracker.sightedThisFrame = false ∧
      (s.tracker.shadow = none → t.tracker.tx = s.tracker.tx ∧ t.tracker.ty = s.tracker.ty) ∧
      (∀ b, s.tracker.shadow = some b → TrackSettingsSound b →
        let now := s.tracker.active
        let moved := b.xmin ≠ now.xmin ∨ b.xmax ≠ now.xmax ∨ b.ymin ≠ now.ymin ∨ b.ymax ≠ now.ymax
        (¬moved → t.tracker.tx = s.tracker.tx ∧ t.tracker.ty = s.tracker.ty) ∧
        (moved →
          t.tracker.tx.toNat = max b.xmin.toNat (min b.xmax.toNat s.tracker.tx.toNat) ∧
          t.tracker.ty.toNat = max b.ymin.toNat (min b.ymax.toNat s.tracker.ty.toNat))) ∧
      (s.tracker.state = .off → t.tracker.state = .off ∧ t.tracker.lossCount = s.tracker.lossCount) ∧
      (s.tracker.state = .lost → t.tracker.state = .lost) ∧
      (s.tracker.state = .tracking →
        t.tracker.state = if s.tracker.active.lossLimit ≤ missed then .lost else .tracking) ∧
      (s.tracker.state ≠ .off → t.tracker.lossCount = missed ∧ t.tracker.crossStruck = false) ∧
      t.tracker.cross =
        (if (s.tracker.shadow.getD s.tracker.active).crossName = s.tracker.active.crossName then
          s.tracker.cross.map (fun c => { c with fetchedThisFrame := false })
        else none) ∧
      (GateQuiet s → s.tracker.state = .off →
        t.gate.lastPick = s.gate.lastPick ∧ t.echo.item = echoOneFrameOn s.echo.item ∧
        (s.follower.display = .running → s.reports.shadow = none → t.reports = s.reports) ∧
        (s.follower.display = .stopped → s.reports.shadow = none →
          t.reports = (requestReport
            { kind := .condition, frame := s.follower.frameNo + 1, stamp := s.time, orderAddr := some a
              code := some 8 } s).reports) ∧
        (∀ r, s.follower.display = .running → s.reports.shadow = some r →
          (∀ o, s.reports.writeOut = some o → (∃ k, o.step = .filling k) ∨ o.step = .publish →
            t.reports = { s.reports with deferral := true }) ∧
          (∀ o, s.reports.writeOut = some o → o.step = .claim ∨ o.step = .waiting →
            t.reports = { s.reports with
              ring := some r, shadow := none, deferral := false, slots := List.replicate r.slots .unknown
              pointer := 0, attention := false, writeOut := some { o with slot := 0, step := .claim } }) ∧
          (s.reports.writeOut = none → t.reports = { s.reports with
            ring := some r, shadow := none, deferral := false, slots := List.replicate r.slots .unknown
            pointer := 0, attention := false, queue := s.reports.queue.tail
            writeOut := s.reports.queue.head?.map (fun q => { report := q, slot := 0, step := .claim }) })))

/-- The order word of a JUMP, CALL or RETURN outside a slot is noted as the pending transfer, and the slot order is
expected next (R10). A CALL with seven levels pushed, or a RETURN with none, sends FOLLOWING to LOST with its own
condition and records no transfer (R9, R17, R18). That the Echo Unit's records stay at such a fetch is the model's
choice, assumption log 12, DEDUCED. -/
def Obligations.TransferIsNotedOrFaults : Prop :=
  (∀ (a : Addr) (x y : Coord) (tr : Transfer) (s : State), PassingGranted s →
     s.follower.follow = .following → s.follower.expected = some a → s.follower.inProgress = none →
     s.follower.transfer = none → s.follower.display = .running →
     (match decodeOrder (s.word a) with
       | .jump target => tr = .jump target
       | .call target hides => tr = .call target hides ∧ s.follower.pushed.length ≠ 7
       | .ret => tr = .ret ∧ s.follower.pushed ≠ []
       | _ => False) →
     exec (.dRead a x y) s = .next
       { s with
         pins := { s.pins with
           defx := x, defy := y, bd := s.word a, ma := a, md := s.word a, mcyc := .idle, bwait := false }
         follower := { s.follower with transfer := some tr, expected := some (a + 1) }
         echo := { s.echo with text := none }
         passage :=
           { s.passage with lockHeld := false, pairWritten := false, fairShare := countAfterPassing s, held := [] } }) ∧
  (∀ (a : Addr) (x y : Coord) (code : Nat) (s : State), PassingGranted s →
     s.follower.follow = .following → s.follower.expected = some a → s.follower.inProgress = none →
     s.follower.transfer = none →
     (match decodeOrder (s.word a) with
       | .call _ _ => s.follower.pushed.length = 7 ∧ code = 5
       | .ret => s.follower.pushed = [] ∧ code = 6
       | _ => False) →
     ∃ t, exec (.dRead a x y) s = .next t ∧
       t.follower = { s.follower with
         follow := .lost, resync := none, rootName := 0, pushed := [], transfer := none,
         inProgress := none, expected := none, history := [] } ∧
       t.pen = s.pen ∧
       t.reports = (requestReport
         { kind := .condition, frame := s.follower.frameNo, stamp := s.time, orderAddr := some a,
           code := some code } s).reports ∧
       t.pins.bd = s.word a ∧ t.echo = s.echo ∧ t.store = s.store)

/-- The last word of a slot order carries the pending transfer out: a JUMP expects its target, a CALL pushes a level
named as its caller, and a RETURN pops one; a transfer in the slot is a no-op. A NAME in the slot renames the innermost
level first, so that a CALL's level inherits the name, and a RETURN's level disappears with it. A slot order of more
than one word keeps the transfer pending until its last word, and the return address follows that word (R4, R5, R11,
R12, R16, R17, R18, R19). -/
def Obligations.SlotOrderCarriesOutTheTransfer : Prop :=
  (∀ (a : Addr) (x y : Coord) (tr : Transfer) (s : State), PassingGranted s →
     s.follower.follow = .following → s.follower.expected = some a → s.follower.inProgress = none →
     s.follower.transfer = some tr → (∀ target, decodeOrder (s.word a) ≠ .restart target) →
     ∃ t, exec (.dRead a x y) s = .next t ∧ t.store = s.store ∧ t.time = s.time ∧
       ((decodeOrder (s.word a)).words = 1 →
         ((∀ n, decodeOrder (s.word a) ≠ .pass 0 1 n) → CarriedOut tr (a + 1) s.follower t.follower) ∧
         (∀ n, decodeOrder (s.word a) = .pass 0 1 n →
           CarriedOut tr (a + 1) (renamedInnermost n s.follower) t.follower ∧
           t.segments = { s.segments with
             entries := s.segments.entries.map (fun e =>
               if n ≠ 0 ∧ e.name = n then { e with lastSeen := s.follower.frameNo } else e) })) ∧
       ((∀ e subtype payload, decodeOrder (s.word a) ≠ .pass e subtype payload) →
         t.pass = s.pass ∧ t.segments = s.segments ∧ t.pen = s.pen ∧ t.gate = s.gate ∧ t.reports = s.reports) ∧
       (1 < (decodeOrder (s.word a)).words →
         t.follower.transfer = some tr ∧ t.follower.expected = some (a + 1) ∧ t.follower.follow = .following ∧
         t.follower.rootName = s.follower.rootName ∧ t.follower.pushed = s.follower.pushed ∧
         ∃ p, t.follower.inProgress = some p ∧ p.addr = a ∧ p.order = decodeOrder (s.word a) ∧
           p.words = (decodeOrder (s.word a)).words ∧ p.fetched = 1 ∧ p.stored = [s.word a])) ∧
  (∀ (a : Addr) (x y : Coord) (tr : Transfer) (p : InProgress) (s : State), PassingGranted s →
     s.follower.follow = .following → s.follower.expected = some a → s.follower.inProgress = some p →
     s.follower.transfer = some tr →
     ∃ t, exec (.dRead a x y) s = .next t ∧ t.store = s.store ∧ t.time = s.time ∧
       (p.fetched + 1 ≠ p.words →
         t.follower.transfer = some tr ∧ t.follower.expected = some (a + 1) ∧ t.follower.follow = .following ∧
         t.follower.rootName = s.follower.rootName ∧ t.follower.pushed = s.follower.pushed ∧
         t.follower.inProgress =
           some { p with fetched := p.fetched + 1, stored := p.stored ++ [s.word a] }) ∧
       (p.fetched + 1 = p.words →
         ((∀ e n, p.order ≠ .pass e 1 n) → CarriedOut tr (a + 1) s.follower t.follower) ∧
         (∀ e n, p.order = .pass e 1 n →
           CarriedOut tr (a + 1) (renamedInnermost n s.follower) t.follower)))

/-- A one-word NAME followed outside a slot renames the innermost level, marks its segment as seen in this frame,
and changes no other name (R16, R19, R58). -/
def Obligations.NameRenamesTheInnermostLevel : Prop :=
  ∀ (a : Addr) (x y : Coord) (n : Name) (s : State), PassingGranted s →
    s.follower.follow = .following → s.follower.expected = some a → s.follower.inProgress = none →
    s.follower.transfer = none → decodeOrder (s.word a) = .pass 0 1 n →
    ∃ t, exec (.dRead a x y) s = .next t ∧ t.follower.expected = some (a + 1) ∧
      (s.follower.pushed = [] → t.follower.rootName = n ∧ t.follower.pushed = []) ∧
      (∀ outer level, s.follower.pushed = outer ++ [level] →
        t.follower.rootName = s.follower.rootName ∧
        t.follower.pushed = outer ++ [{ level with name := n }]) ∧
      t.segments = { s.segments with
        entries := s.segments.entries.map (fun e =>
          if n ≠ 0 ∧ e.name = n then { e with lastSeen := s.follower.frameNo } else e) } ∧
      t.follower.history = s.follower.history ∧ t.pass = s.pass ∧ t.pen = s.pen ∧ t.gate = s.gate ∧
      t.loft = s.loft ∧ t.tracker = s.tracker ∧ t.reports = s.reports ∧ t.store = s.store

/-- A PASS order is handed over at its last word, with the address of its order word, its extra-word count, subtype,
payload and stored words, and not before: the D_READ of that word leaves the units as the hand-off leaves them, a NAME
renaming the innermost level first, and that of an earlier word leaves them as they were (R5, R19, R24, R30, R35). What
each order does: the statements under PASS orders. The last word of a GATE order with one argument: the clamped
candidate becomes the gate settings' shadow, or empties it when it equals the active set; the active set does not change
(R32, R36, R101). -/
def Obligations.PassOrderIsHandedOverAtItsLastWord : Prop :=
  (∀ (a : Addr) (x y : Coord) (e subtype : Nat) (payload : BitVec 12) (s : State), PassingGranted s →
    s.follower.follow = .following → s.follower.expected = some a → s.follower.inProgress = none →
    decodeOrder (s.word a) = .pass e subtype payload →
    let u := if e = 0 then handOff a 0 subtype payload [s.word a] (atHandOff subtype payload s) else s
    ∃ t, exec (.dRead a x y) s = .next t ∧ SameUnits u t ∧ t.pins.bd = s.word a ∧ t.store = s.store ∧
      t.menuMap = s.menuMap ∧ t.time = s.time ∧ t.follower.history = s.follower.history ∧
      t.echo.text = (if s.follower.display = .running then none else s.echo.text) ∧
      (e = 0 → s.follower.transfer = none → t.follower = { u.follower with expected := some (a + 1) }) ∧
      (e ≠ 0 → t.follower = { s.follower with
        inProgress := some
          { addr := a, order := .pass e subtype payload, words := 1 + e, fetched := 1, stored := [s.word a]
            name := nameNow s.follower, path := pathNow s.follower, menu := false }
        expected := some (a + 1) })) ∧
  (∀ (a : Addr) (x y : Coord) (e subtype : Nat) (payload : BitVec 12) (p : InProgress) (s : State),
    PassingGranted s → s.follower.follow = .following → s.follower.expected = some a →
    s.follower.inProgress = some p → p.order = .pass e subtype payload → p.words = 1 + e → 1 ≤ p.fetched →
    p.menu = false →
    let last := p.fetched = e
    let u :=
      if last then handOff p.addr e subtype payload (p.stored ++ [s.word a]) (atHandOff subtype payload s) else s
    ∃ t, exec (.dRead a x y) s = .next t ∧ SameUnits u t ∧ t.pins.bd = s.word a ∧ t.store = s.store ∧
      t.menuMap = s.menuMap ∧ t.time = s.time ∧ t.follower.history = s.follower.history ∧ t.echo = u.echo ∧
      (last → s.follower.transfer = none →
        t.follower = { u.follower with inProgress := none, expected := some (a + 1) }) ∧
      (¬last → t.follower = { s.follower with
        inProgress := some { p with fetched := p.fetched + 1, stored := p.stored ++ [s.word a] }
        expected := some (a + 1) })) ∧
  (∀ (a : Addr) (x y : Coord) (p : InProgress) (first : Word) (s : State), PassingGranted s →
    s.follower.follow = .following → s.follower.expected = some a → s.follower.inProgress = some p →
    s.follower.transfer = none → p.order = .pass 1 6 0 → p.words = 2 → p.fetched = 1 → p.menu = false →
    p.stored = [first] →
    let candidate : GateSettings :=
      { length := max 1 (min 15 ((s.word a).extractLsb' 0 4).toNat)
        dwell := max 2 (min 15 ((s.word a).extractLsb' 4 4).toNat)
        hover := (s.word a).getLsbD 8 }
    exec (.dRead a x y) s = .next
      { s with
        pins := { s.pins with
          defx := x, defy := y, bd := s.word a, ma := a, md := s.word a, mcyc := .idle, bwait := false }
        follower := { s.follower with inProgress := none, expected := some (a + 1) }
        gate := { s.gate with shadow := if candidate = s.gate.active then none else some candidate }
        passage :=
          { s.passage with lockHeld := false, pairWritten := false, fairShare := countAfterPassing s, held := [] } })

/-! ### PASS orders -/

/-- A SEGMENT order of a new name in a table with room makes its entry active at once, with the fields its arguments
carry at 12.2's bits over the defaults, and changes no other name's attributes. With no argument the entry holds the
defaults; a MENU class takes its separator and trigger from argument 2, or their defaults, and a READOUT class its
part's defaults (R32, R37, R50, R51, R52). -/
def Obligations.SegmentOrderCreatesAnEntry : Prop :=
  ∀ (a : Addr) (n : Name) (extra : Nat) (ws : List Word) (s : State), n ≠ 0 → s.segments.find n = none →
    s.segments.entries.length < 128 →
    let t := handOff a extra 2 n ws s
    let set := attributesOf t n
    set = segmentSet { classPart := .draw, sensitivity := .pick, priority := 0, highlight := .none, boost := 1 } ws ∧
    (∀ w₀, ws = [w₀] →
      set = { classPart := .draw, sensitivity := .pick, priority := 0, highlight := .none, boost := 1 }) ∧
    (∀ w₀ w₁ rest, ws = w₀ :: w₁ :: rest →
      set.sensitivity =
        (match (w₁.extractLsb' 20 2).toNat with | 0 => .pick | 1 => .locked | _ => .blind) ∧
      set.priority = (w₁.extractLsb' 17 3).toNat ∧
      set.highlight =
        (match (w₁.extractLsb' 15 2).toNat with | 0 => .none | 1 => .bright | 2 => .dim | _ => .blink) ∧
      set.boost = max 1 (w₁.extractLsb' 11 4).toNat ∧
      set.classPart =
        match (w₁.extractLsb' 22 2).toNat, rest with
        | 0, _ => .draw
        | 1, [] => .menu 0x7C#7 .tip
        | 1, w₂ :: _ => .menu (w₂.extractLsb' 0 7) (if w₂.getLsbD 7 then .dwell else .tip)
        | _, _ => .readout { axis := .a, form := .linear, digits := 6, fill := .zero, overflowMark := 0x2A#7 }) ∧
    (∀ m, m ≠ n → attributesOf t m = attributesOf s m) ∧
    t.segments.entries.length = s.segments.entries.length + 1 ∧
    t.segments.fullReported = s.segments.fullReported ∧
    (∃ e ∈ t.segments.entries, e.name = n ∧ e.shadow = none ∧ e.lastSeen = s.follower.frameNo ∧
      e.dropPending = false) ∧
    t = s.setSegments t.segments

/-- A SEGMENT order of a name the table holds changes only that entry's shadow, so that every reader still receives
the active set; the frame end then makes the shadow active (R36, R56, R59). The shadow takes the common fields of
argument 1 at 12.2's bits over the present set; an unchanged class keeps its part, but for a MENU's separator and
trigger that argument 2 carries, and a new class has its own (R32, R50, R56). A READOUT order does the same with the
readout part of an entry whose present class is READOUT, and nothing to any other entry, or for a name not held (R57).
-/
def Obligations.SegmentOrderIsShadowedUntilFrameEnd : Prop :=
  (∀ (a : Addr) (n : Name) (extra : Nat) (ws : List Word) (e : Segment) (s : State), n ≠ 0 →
     s.segments.find n = some e →
     let t := handOff a extra 2 n ws s
     let candidate := segmentSet (e.shadow.getD e.active) ws
     (∀ m, attributesOf t m = attributesOf s m) ∧
     t.segments.find n = some { e with shadow := if candidate = e.active then none else some candidate } ∧
     (∀ m, m ≠ n → t.segments.find m = s.segments.find m) ∧
     t = s.setSegments t.segments ∧
     (e.dropPending = false → SegmentsSound s.segments →
       attributesOf (segmentsFrameEnd t) n = candidate)) ∧
  (∀ (a : Addr) (n : Name) (extra : Nat) (ws : List Word) (s : State), n ≠ 0 →
     let t := handOff a extra 3 n ws s
     (s.segments.find n = none → t = s) ∧
     (∀ e, s.segments.find n = some e →
       let present := e.shadow.getD e.active
       (∀ m, attributesOf t m = attributesOf s m) ∧ (∀ m, m ≠ n → t.segments.find m = s.segments.find m) ∧
       t = s.setSegments t.segments ∧
       (∀ p, present.classPart = .readout p →
         let candidate := { present with
           classPart := .readout (fieldOr ws 1 p (fun w =>
             { axis := if w.getLsbD 23 then .b else .a
               form := if w.getLsbD 22 then .station else .linear
               digits := max 1 (min 7 (w.extractLsb' 19 3).toNat)
               fill := if w.getLsbD 18 then .blank else .zero
               overflowMark := w.extractLsb' 0 7 })) }
         t.segments.find n =
           some { e with shadow := if candidate = e.active then none else some candidate }) ∧
       ((∀ p, present.classPart ≠ .readout p) → t.segments.find n = some e)))

/-- A creation in a full table evicts the oldest evictable entry, the lowest name among equals, and never an entry
seen in this frame or the last, voted for, tracked or echoed; with none evictable, and only then, it is refused, and
reported once a frame (R53, R54, R55). -/
def Obligations.FullTableEvictsTheOldest : Prop :=
  ∀ (a : Addr) (e : Segment) (s : State), SegmentsSound s.segments → s.segments.entries.length = 128 →
    s.segments.find e.name = none →
    let age := fun (x : Segment) => (s.follower.frameNo - x.lastSeen).toNat
    let eligible := fun (x : Segment) =>
      2 ≤ age x ∧ (∀ v ∈ s.gate.tally, v.key.name ≠ x.name) ∧ s.tracker.active.crossName ≠ x.name ∧
      s.echo.picked ≠ some x.name
    let t := createSegment e a s
    ((∃ x ∈ s.segments.entries, eligible x) →
      ∃ v ∈ s.segments.entries, eligible v ∧
        (∀ x ∈ s.segments.entries, eligible x →
          age x < age v ∨ (age x = age v ∧ v.name.toNat ≤ x.name.toNat)) ∧
        t.segments.entries.Perm (e :: s.segments.entries.filter (fun x => x.name != v.name)) ∧
        t.segments.entries.length = 128 ∧ t.reports = s.reports) ∧
    ((∀ x ∈ s.segments.entries, ¬eligible x) →
      t.segments.entries = s.segments.entries ∧ t.segments.fullReported = true ∧
      t.reports = if s.segments.fullReported then s.reports else
        (requestReport
          { kind := .condition, frame := s.follower.frameNo, stamp := s.time, orderAddr := some a,
            name := some e.name, code := some 1 } s).reports)

/-- A SYSTEM order at or above the boundary does nothing but ask for one PROTECTED report a frame; one below it, or
under straps of 0, is honoured: it acts as with no protection, and the Pass Decoder's state does not change. Straps of
`n` put the boundary at 16,384 times `n`. What an honoured order does: RingOrderIsCheckedWhole,
SetupOrdersFillOnlyShadows (R30, R33, R34). -/
def Obligations.ProtectedOrderIsRefused : Prop :=
  ∀ (a : Addr) (extra subtype : Nat) (payload : BitVec 12) (ws : List Word) (s : State),
    subtype = 16 ∨ subtype = 17 ∨ subtype = 18 →
    let report : Report :=
      { kind := .condition, frame := s.follower.frameNo, stamp := s.time, orderAddr := some a,
        code := some 2 }
    let t := handOff a extra subtype payload ws s
    (s.pass.straps ≠ 0 → 16384 * s.pass.straps.toNat ≤ a.toNat →
      (s.pass.protectedReported = true → t = s) ∧
      (s.pass.protectedReported = false →
        t = (requestReport report s).setPass { s.pass with protectedReported := true } ∧
        handOff a extra subtype payload ws t = t)) ∧
    (s.pass.straps = 0 ∨ a.toNat < 16384 * s.pass.straps.toNat →
      t = (handOff a extra subtype payload ws (s.setPass { s.pass with straps := 0 })).setPass s.pass)

/-- A COMMAND at an address still listed, or with four commands listed, is not taken and changes nothing; any other is
taken, and then stands last on the Consumption List (R40, R43). An accepted one also acts, and on its owner alone:
START-TRACK begins a run at its argument or at the last pick, clamped into the box; STOP-TRACK ends the run with reason
COMMAND, its report (kept with those of the moment, the model's choice, assumption log 22) and its write-back;
CANCEL-GATE closes the gate with no report; CLEAR-ECHO ends both echoes; DROP-SEGMENT marks its entry, CLEAR-TABLE every
entry; MARK asks for a report of its tag (R41, R60, R147, R151). -/
def Obligations.CommandIsTakenOnce : Prop :=
  (∀ (a : Addr) (extra : Nat) (payload : BitVec 12) (ws : List Word) (s : State),
    let t := handOff a extra 8 payload ws s
    let listed := ∃ c ∈ s.pass.consumption, c.addr = a
    (listed ∨ 4 ≤ s.pass.consumption.length → t = s) ∧
    (¬listed → s.pass.consumption.length < 4 →
      t.pass = { s.pass with consumption := s.pass.consumption ++ [{ addr := a, extra := extra }] } ∧
      handOff a extra 8 payload ws t = t)) ∧
  (∀ (a : Addr) (extra : Nat) (operand : BitVec 8) (ws : List Word) (s : State),
    (∀ c ∈ s.pass.consumption, c.addr ≠ a) → s.pass.consumption.length < 4 →
    let t := fun (code : BitVec 4) => handOff a extra 8 (code ++ operand) ws s
    let listed := fun (u : State) =>
      u.setPass { s.pass with consumption := s.pass.consumption ++ [{ addr := a, extra := extra }] }
    (∀ px py : Coord, s.tracker.active.crossName ≠ 0 → s.tracker.state = .off →
      TrackSettingsSound s.tracker.active →
      (match ws[1]? with
        | some w => px = w.extractLsb' 10 10 ∧ py = w.extractLsb' 0 10
        | none => ∃ p, s.gate.lastPick = some p ∧ px = p.sampleX ∧ py = p.sampleY) →
      let b := s.tracker.active
      t 1 = listed (s.setTracker { s.tracker with
        state := .tracking, tx := (t 1).tracker.tx, ty := (t 1).tracker.ty, lossCount := 0, crossStruck := false
        lastReported := none, sightedThisFrame := false, sightedLastFrame := false
        cross := s.tracker.cross.map (fun c => { c with substituted := false }) }) ∧
      (t 1).tracker.tx.toNat = max b.xmin.toNat (min b.xmax.toNat px.toNat) ∧
      (t 1).tracker.ty.toNat = max b.ymin.toNat (min b.ymax.toNat py.toNat)) ∧
    (s.tracker.state ≠ .off →
      (t 2).tracker = runEndTracker s.tracker ∧ (t 2).reports = (requestReport (runEndReport 2 s) s).reports ∧
      t 2 = (((listed (s.setTracker (t 2).tracker)).setReports (t 2).reports).setPassage (t 2).passage).setMoment
        { s.moment with reports := s.moment.reports ++ [runEndReport 2 s] }) ∧
    t 3 = listed (s.setGate { s.gate with gate := none, tally := [] }) ∧
    t 4 = listed (s.setEcho { s.echo with picked := none, item := none }) ∧
    (∀ w, ws[1]? = some w → w.extractLsb' 0 12 ≠ 0 → s.segments.find (w.extractLsb' 0 12) ≠ none →
      t 5 = listed (s.setSegments { s.segments with
        entries := s.segments.entries.map (fun e =>
          if e.name = w.extractLsb' 0 12 then { e with dropPending := true } else e) })) ∧
    t 6 = listed (s.setSegments { s.segments with
      entries := s.segments.entries.map (fun e => { e with dropPending := true }) }) ∧
    t 7 = listed (requestReport
      { kind := .mark, frame := s.follower.frameNo, stamp := s.time, orderAddr := some a
        code := some operand.toNat } s))

/-- A refused command changes no owner's state: it asks for one REFUSAL report with its code, and is listed. The
codes are those of START-TRACK, STOP-TRACK, DROP-SEGMENT and the codes that name no command (R41, R42, R146). -/
def Obligations.RefusedCommandOnlyReports : Prop :=
  ∀ (a : Addr) (extra : Nat) (operand : BitVec 8) (code : BitVec 4) (ws : List Word) (refusal : Nat)
    (s : State), (∀ c ∈ s.pass.consumption, c.addr ≠ a) → s.pass.consumption.length < 4 →
    ((code = 1 ∧ s.tracker.active.crossName = 0 ∧ refusal = 2) ∨
     (code = 1 ∧ s.tracker.active.crossName ≠ 0 ∧ s.tracker.state ≠ .off ∧ refusal = 3) ∨
     (code = 1 ∧ s.tracker.active.crossName ≠ 0 ∧ s.tracker.state = .off ∧ ws.length < 2 ∧
        s.gate.lastPick = none ∧ refusal = 4) ∨
     (code = 2 ∧ s.tracker.state = .off ∧ refusal = 5) ∨
     (code = 5 ∧ refusal = 6 ∧
        ∀ w, argument ws 1 = some w → bitsAt w 0 12 = 0 ∨ s.segments.find (bitsAt w 0 12) = none) ∨
     ((code = 0 ∨ 8 ≤ code.toNat) ∧ refusal = 1)) →
    handOff a extra 8 (code ++ operand) ws s =
      (requestReport
        { kind := .refusal, frame := s.follower.frameNo, stamp := s.time, orderAddr := some a,
          code := some refusal } s).setPass
        { s.pass with consumption := s.pass.consumption ++ [{ addr := a, extra := extra }] }

/-- A RING order that the boundary honours. Its ring takes its base and its slot count from the arguments it carries,
and what it lacks from the pending ring, else from the active one. A base that is a multiple of 16 whose slots lie in
the store makes it the shadow, or empties the shadow when it is the active ring; any other, or an argument lacking
with neither ring held, asks for a RING-INVALID report and changes nothing else (R31, R32, R36, R39, R196). That a
pending ring serves before any ring is active is the model's choice, assumption log 23. -/
def Obligations.RingOrderIsCheckedWhole : Prop :=
  ∀ (a : Addr) (extra : Nat) (payload : BitVec 12) (ws : List Word) (s : State), Honoured s a →
    let present := if s.reports.shadow.isSome then s.reports.shadow else s.reports.ring
    let base := fieldOr ws 1 (present.map (·.base)) (fun w => some (w.extractLsb' 0 18))
    let slots := fieldOr ws 2 (present.map (·.slots)) (fun w => some (max 1 (min 63 (w.extractLsb' 0 6).toNat) + 1))
    let t := handOff a extra 16 payload ws s
    let invalid := requestReport
      { kind := .condition, frame := s.follower.frameNo, stamp := s.time, orderAddr := some a, code := some 3 } s
    (base = none ∨ slots = none → t = invalid) ∧
    (∀ b n, base = some b → slots = some n →
      let ring : Ring := { base := b, slots := n }
      (b.toNat % 16 = 0 → b.toNat + 16 * n ≤ 262144 →
        ((∀ q, present = some q → RingSound q) → RingSound ring) ∧
        (s.reports.ring ≠ some ring → t = s.setReports { s.reports with shadow := some ring }) ∧
        (s.reports.ring = some ring →
          t = s.setReports { s.reports with shadow := none, deferral := false })) ∧
      (b.toNat % 16 ≠ 0 ∨ 262144 < b.toNat + 16 * n → t = invalid))

/-- VIEW, GRID, GATE, TRACK, PEN and TIMING orders change no active setting: each forms a candidate from the present
values and the fields it carries, clamped, and fills the shadows of its owners with it, or empties one that would equal
the active value. A TRACK box goes over with its bounds in order, and the shadows hold legal values (R32, R35, R36, R38,
R65, R101, R122, R140). -/
def Obligations.SetupOrdersFillOnlyShadows : Prop :=
  ∀ (a : Addr) (extra : Nat) (payload : BitVec 12) (ws : List Word) (s : State),
    let t := fun (subtype : Nat) => handOff a extra subtype payload ws s
    let clamp := fun (lo hi n : Nat) => max lo (min hi n)
    let metres := fun (w : Word) => max (-999999) (min 999999 w.toInt)
    let view := s.loft.shadow.getD s.loft.active
    let viewed : ViewSettings := { view with
      view := match (payload.extractLsb' 2 2).toNat with | 0 => .plan | 1 => .sheer | _ => .body
      rounding := match (payload.extractLsb' 0 2).toNat with | 0 => .rn | 1 => .rz | 2 => .rp | _ => .rm
      scale := fieldOr ws 1 view.scale (fun w => clamp 1 65535 (w.extractLsb' 0 16).toNat)
      originA := fieldOr ws 2 view.originA metres
      originB := fieldOr ws 3 view.originB metres
      centreline := fieldOr ws 4 view.centreline (fun w => clamp 256 767 (w.extractLsb' 0 10).toNat) }
    let gridded : ViewSettings := { view with
      grid := fieldOr ws 1 view.grid (fun w => min 9999 (w.extractLsb' 0 14).toNat)
      spacing := fieldOr ws 2 view.spacing (fun w => clamp 100 9999 (w.extractLsb' 0 14).toNat)
      frameZero := fieldOr ws 3 view.frameZero metres }
    let gate := s.gate.shadow.getD s.gate.active
    let gated : GateSettings :=
      { length := fieldOr ws 1 gate.length (fun w => clamp 1 15 (w.extractLsb' 0 4).toNat)
        dwell := fieldOr ws 1 gate.dwell (fun w => clamp 2 15 (w.extractLsb' 4 4).toNat)
        hover := fieldOr ws 1 gate.hover (fun w => w.getLsbD 8) }
    let track := s.tracker.shadow.getD s.tracker.active
    let lesser := fun (w : Word) =>
      if (w.extractLsb' 0 10).toNat < (w.extractLsb' 10 10).toNat then w.extractLsb' 0 10
      else w.extractLsb' 10 10
    let greater := fun (w : Word) =>
      if (w.extractLsb' 0 10).toNat < (w.extractLsb' 10 10).toNat then w.extractLsb' 10 10
      else w.extractLsb' 0 10
    let tracked : TrackSettings :=
      { crossName := payload
        gainShift := fieldOr ws 1 track.gainShift (fun w => (w.extractLsb' 0 2).toNat)
        lossLimit := fieldOr ws 1 track.lossLimit (fun w => clamp 1 15 (w.extractLsb' 2 4).toNat)
        xmin := fieldOr ws 2 track.xmin lesser, xmax := fieldOr ws 2 track.xmax greater
        ymin := fieldOr ws 3 track.ymin lesser, ymax := fieldOr ws 3 track.ymax greater }
    let pen := s.pen.shadow.getD s.pen.active
    let penned : PenSettings := { pen with
      edgeMode := match (payload.extractLsb' 4 2).toNat with | 0 => .rising | 1 => .falling | 2 => .any | _ => .level
      photoInvert := payload.getLsbD 3, tipInvert := payload.getLsbD 2
      inhibitMode := if payload.getLsbD 1 then .latch else .level
      tLW := fieldOr ws 1 pen.tLW (fun w => (w.extractLsb' 15 4).toNat)
      tDT := fieldOr ws 1 pen.tDT (fun w => clamp 1 63 (w.extractLsb' 9 6).toNat)
      strikeLimit := fieldOr ws 1 pen.strikeLimit (fun w => clamp 1 16 (w.extractLsb' 0 5).toNat) }
    let timed := { pen with tDB := fieldOr ws 1 pen.tDB (fun w => clamp 1 31 (w.extractLsb' 0 5).toNat) }
    let tFT := fieldOr ws 1 (s.follower.pendingTFT.getD s.follower.tFT)
      (fun w => clamp 10 255 (w.extractLsb' 5 8).toNat)
    t 4 = s.setLoft { s.loft with shadow := if viewed = s.loft.active then none else some viewed } ∧
    t 5 = s.setLoft { s.loft with shadow := if gridded = s.loft.active then none else some gridded } ∧
    t 6 = s.setGate { s.gate with shadow := if gated = s.gate.active then none else some gated } ∧
    t 7 = s.setTracker { s.tracker with shadow := if tracked = s.tracker.active then none else some tracked } ∧
    (Honoured s a →
      t 17 = s.setPen { s.pen with shadow := if penned = s.pen.active then none else some penned } ∧
      t 18 = (s.setPen { s.pen with shadow := if timed = s.pen.active then none else some timed }).setFollower
        { s.follower with pendingTFT := if tFT = s.follower.tFT then none else some tFT }) ∧
    (LoftSound s.loft → GateSound s.gate → TrackerSound s.tracker → PenSound s.pen s.pins →
      FollowerSound s.follower →
      ∀ n ∈ [4, 5, 6, 7, 17, 18], LoftSound (t n).loft ∧ GateSound (t n).gate ∧ TrackerSound (t n).tracker ∧
        PenSound (t n).pen (t n).pins ∧ FollowerSound (t n).follower)

/-! ### The pen -/

/-- PHOTO_EDGE with no candidate in the Fetch History, where the edge gives a pulse: with all five conditions of R68
the strike is counted and recorded; with one of them failed only the level and the beam change. A change of follow state
or display state in the same microsecond may be met on either side: before it, a strike is accepted even as the Fetch
History stands emptied, and is an empty strike. Where the edge gives no pulse, the level and the beam change and the
repetition interval stops (R66, R67, R68, R69, R70, R71, R72, R79, R80, R81). The clause on copies that do not
yet agree rests on assumption logs 2 and 20, DESIGN CHOICE: which of the two is met first is a free choice, and a pulse
met first leaves the change untaken, a pulse met second takes it. -/
def Obligations.PhotoEdgePulsesOrNot : Prop :=
  ∀ (x y : Coord) (s : State), Settled s →
    let level := (!s.pins.photo) != s.pen.active.photoInvert
    let pulses :=
      match s.pen.active.edgeMode with
      | .rising | .level => level = true
      | .falling => level = false
      | .any => True
    let accepted := fun (follow : FollowState) (display : DisplayState) =>
      follow = .following ∧ display = .running ∧
      (match s.pen.active.inhibitMode with
        | .level => s.pins.pinh = false
        | .latch => s.pen.inhibitLatch = false) ∧
      (∀ t, s.pen.lastStrike = some t →
        s.pen.active.tDT ≤ (s.time - t).toNat ∨ 63 ≤ (s.time - t).toNat) ∧
      s.pen.strikes < s.pen.active.strikeLimit
    let pins := { s.pins with photo := !s.pins.photo, defx := x, defy := y }
    let pen := { s.pen with
      photoLevel := level
      repetition :=
        if s.pen.active.edgeMode = .level ∧ level = true then
          some { since := s.time, length := s.pen.active.tDT }
        else none }
    let struck := fun (p : Pen) => { p with lastStrike := some s.time, strikes := s.pen.strikes + 1 }
    let taken := { pen with followCopy := s.follower.follow, displayCopy := s.follower.display }
    (pulses → s.follower.history = [] →
      (CopiesSound s →
        (accepted s.follower.follow s.follower.display →
          exec (.photoEdge x y) s = .next { s with pins := pins, pen := struck pen }) ∧
        (¬accepted s.follower.follow s.follower.display →
          exec (.photoEdge x y) s = .next { s with pins := pins, pen := pen })) ∧
      (¬CopiesSound s → ∃ pulseFirst : Bool,
        let judged := if pulseFirst then accepted s.pen.followCopy s.pen.displayCopy
          else accepted s.follower.follow s.follower.display
        let left := if pulseFirst then pen else taken
        (judged → exec (.photoEdge x y) s = .next
          { s with pins := pins, pen := struck left, choices := s.choices + 1 }) ∧
        (¬judged → exec (.photoEdge x y) s = .next
          { s with pins := pins, pen := left, choices := s.choices + 1 }))) ∧
    (¬pulses → exec (.photoEdge x y) s = .next { s with pins := pins, pen := pen })

/-- An accepted strike whose newest history entry wins: no entry of the window that is neither BLIND nor under the cross
name stands before it in priority. A drawn stroke or a plain text votes at an OPEN gate for its name (R85, R86, R90,
R91, R104, R105). A menu text votes for the item under the beam; at a CLOSED gate an item with trigger DWELL goes to the
Dwell Record, and with hover ON the Hover Record takes any menu item (R87, R89, R104, R113, R116). Under the cross name:
in OFF a candidate there is a sighting beside that result, and it alone no result for the gate; in a run it is a cross
strike, which goes to the Tracking Unit and nowhere else (R79, R83, R84, R85, R92). The Gate Unit and the Tracking Unit
take what they are handed at once or later, in the state they are then in: at a gate closed meanwhile a result votes for
nothing, and one of a strike before the gate opened feeds the Hover Record alone (R104, R113, R116). How much later is
the model's choice, assumption log 25. -/
def Obligations.StrikeVotesForTheNewestStroke : Prop :=
  (∀ (x y : Coord) (older : List HistoryEntry) (e : HistoryEntry) (s : State), StrikeReady s → Settled s →
    s.follower.history = older ++ [e] →
    let seen := fun (h : HistoryEntry) => (s.time - h.fetchTime).toNat ≤ s.pen.active.tLW
    let priority := (attributesOf s e.name).priority
    let part := (attributesOf s e.name).classPart
    let isMenu := match part with | .menu _ _ => true | _ => false
    let sighted := ∃ h ∈ older ++ [e], (h = e ∨ seen h) ∧ UnderCross s h
    let wins := ¬UnderCross s e ∧ (attributesOf s e.name).sensitivity ≠ .blind ∧ priority ≤ 7 ∧
      ∀ h ∈ older, seen h → UnderCross s h ∨ (attributesOf s h.name).sensitivity = .blind ∨
        (attributesOf s h.name).priority ≤ priority
    let winner := fun (item : Option (Nat × ItemDesc)) => ({
      time := s.time, sampleX := x, sampleY := y, key := { name := e.name, item := item.map (·.1) }
      orderAddr := e.addr, path := e.path, edited := e.edited, priority := priority, isMenu := isMenu
      locked := (attributesOf s e.name).sensitivity == .locked, item := item.map (·.2) } : Winner)
    ∃ t, exec (.photoEdge x y) s = .next t ∧
      let u := settleResults t
      t.pen.strikes = s.pen.strikes + 1 ∧ t.pen.lastStrike = some s.time ∧ t.echo = s.echo ∧ t.store = s.store ∧
      ResultsTaken u ∧
      (¬sighted → t.handed.tracker = [] ∧ t.tracker = s.tracker) ∧
      (sighted → s.tracker.state = .off →
        ResultTakenOrPending (·.tracker) (·.tracker) (.sighting s.time) s t ∧
        u.tracker = { s.tracker with sightedThisFrame := true } ∧
        (UnderCross s e →
          (∀ h ∈ older, seen h → UnderCross s h ∨ (attributesOf s h.name).sensitivity = .blind) →
          t.handed.gate = [] ∧ t.gate = s.gate)) ∧
      (sighted → s.tracker.state ≠ .off →
        ResultTakenOrPending (·.tracker) (fun v => (v.tracker, v.reports)) (.result s.time x y) s t ∧
        u.tracker = (trackCross x y s).tracker ∧ u.reports = (trackCross x y s).reports ∧
        t.handed.gate = [] ∧ t.gate = s.gate) ∧
      (¬sighted ∨ s.tracker.state = .off → t.reports = s.reports ∧ t.moment = s.moment) ∧
      (wins → ¬sighted ∨ s.tracker.state = .off →
        (menuText e = none → ResultTakenOrPending (·.gate) (·.gate) (winner none) s t ∧
          (∀ g, s.gate.gate = some g → (s.time - g.openTime).toNat < 8388608 →
            u.gate = votedGate g { name := e.name, item := none } priority (struckSnapshot x y e none s) s) ∧
          (s.gate.gate = none → u.gate = s.gate)) ∧
        (∀ text k i, menuText e = some text → yieldedItem s.menuMap e text x = some (k, i) →
          let key : Key := { name := e.name, item := some k }
          let desc : ItemDesc := { textAddr := e.addr, start := i.start, length := i.length }
          let latest := struckSnapshot x y e (some desc) s
          let dwells := match part with | .menu _ .dwell => true | _ => false
          let hover :=
            if s.gate.active.hover && isMenu then some { key := key, item := desc, won := true } else s.gate.hover
          let d := s.gate.dwell
          ResultTakenOrPending (·.gate) (·.gate) (winner (some (k, desc))) s t ∧
          (∀ g, s.gate.gate = some g → (s.time - g.openTime).toNat < 8388608 →
            u.gate = { votedGate g key priority latest s with hover := hover }) ∧
          (s.gate.gate = none → u.gate = { s.gate with
            hover := hover
            dwell :=
              if dwells then
                { d with
                  candidate := some (key, latest), won := d.won || d.key == some key
                  snapshot := if d.key = some key then some latest else d.snapshot }
              else d })))) ∧
  (∀ (w : Winner) (s : State),
    let t := gateWinner w s
    let hover :=
      match w.item with
      | some i =>
        if s.gate.active.hover && w.isMenu then some { key := w.key, item := i, won := true } else s.gate.hover
      | none => s.gate.hover
    (∀ g, s.gate.gate = some g → 8388608 ≤ (w.time - g.openTime).toNat →
      t = s.setGate { s.gate with hover := hover }) ∧
    (s.gate.gate = none → t.gate.gate = none ∧ t.gate.tally = s.gate.tally ∧ t.gate.hover = hover ∧
      (w.key.item = none ∨ w.isMenu = false ∨ (∀ c, (attributesOf s w.key.name).classPart ≠ .menu c .dwell) →
        t = s.setGate { s.gate with hover := hover })))

/-- REPETITION_INTERVAL_EXPIRY once tDT has run: the interval starts again, and the pulse is judged as any other, on
either side of a change of the same microsecond; before that only the beam is presented (R67, R68). The clause on copies
that do not yet agree rests on assumption logs 2 and 20, DESIGN CHOICE: which of the two is met first is a free choice,
and a pulse met first leaves the change untaken, a pulse met second takes it. The last clause is the model's choice,
assumption log 6. -/
def Obligations.RepetitionExpiryPulsesAgain : Prop :=
  ∀ (x y : Coord) (i : Interval) (s : State), s.pen.repetition = some i → Settled s →
    let pins := { s.pins with defx := x, defy := y }
    let pen := { s.pen with repetition := some { since := s.time, length := s.pen.active.tDT } }
    let taken := { pen with followCopy := s.follower.follow, displayCopy := s.follower.display }
    let judged := fun (accepted : Bool) (p : Pen) =>
      if accepted then { p with lastStrike := some s.time, strikes := p.strikes + 1 } else p
    (i.length ≤ (s.time - i.since).toNat → s.follower.history = [] →
      (CopiesSound s → exec (.repetitionIntervalExpiry x y) s = .next
        { s with pins := pins, pen := judged (pulseAccepted s) pen }) ∧
      (¬CopiesSound s → ∃ pulseFirst : Bool, exec (.repetitionIntervalExpiry x y) s = .next
        { s with
          pins := pins, choices := s.choices + 1
          pen := if pulseFirst then judged (pulseAccepted s) pen
            else judged (pulseAccepted (takeChanges s)) taken })) ∧
    ((s.time - i.since).toNat < i.length →
      exec (.repetitionIntervalExpiry x y) s = .next { s with pins := pins })

/-- LAST_STRIKE_RECORD_DISCARD at 63 µs empties the record (R69). PINH_CHANGE sets the latch only by a rising edge in
LATCH mode (R72, R73). TIP_CHANGE runs the debounce interval with tDB exactly while the conditioned level disagrees with
the tip state (R74). -/
def Obligations.DiscardInhibitAndTipEvents : Prop :=
  (∀ s : State,
     (∀ t, s.pen.lastStrike = some t → 63 ≤ (s.time - t).toNat →
       exec .lastStrikeRecordDiscard s = .next { s with pen := { s.pen with lastStrike := none } }) ∧
     exec .pinhChange s = .next
       { s with
         pins := { s.pins with pinh := !s.pins.pinh }
         pen := { s.pen with inhibitLatch :=
           s.pen.inhibitLatch || (s.pen.active.inhibitMode == .latch && !s.pins.pinh) } }) ∧
  (∀ s : State,
     let level := (!s.pins.tip) != s.pen.active.tipInvert
     exec .tipChange s = .next
       { s with
         pins := { s.pins with tip := !s.pins.tip }
         pen := { s.pen with
           tipLevel := level
           debounce :=
             if level = (s.pen.tip == .down) then none
             else some { since := s.time, length := s.pen.active.tDB * 1000 } } })

/-- DEBOUNCE_EXPIRY once the interval has run. Tip UP, where a condition of R145 fails (no sighting, a run going on, no
cross name or no recorded cross): DOWN, and the gate opens with an empty Tally and Dwell Record, and the picked-segment
echo ends; that its requests are settled then is the model's choice, assumption log 22. Tip UP, after a sighting of a
recorded cross: DOWN, and a run begins at the cross order's stored position, clamped into the box. Tip DOWN: UP; an OPEN
gate closes, with a MISS of an empty Tally and the decision of any other, its segment or its item echoed when neither
LOCKED nor STALE, and a run ends with reason TIP, its report and its write-back, the reports in either order (R74, R75,
R103, R107, R110, R111, R145, R147, R151, R152, R154, R174). A sighting still to be taken at a tip-down is taken first,
and counts, or after it, and does not; one that finds a run going on is not kept (R144, R145). A winner result still to
be taken at the close is taken first, and is in the decision, or finds the gate CLOSED (R104). -/
def Obligations.DebounceExpiryMakesTipEvents : Prop :=
  (∀ (i : Interval) (s : State), s.pen.debounce = some i → i.length ≤ (s.time - i.since).toNat →
     s.pen.tip = .up → s.gate.gate = none → Settled s →
     (s.tracker.sightedThisFrame = false ∧ s.tracker.sightedLastFrame = false) ∨ s.tracker.state ≠ .off ∨
       s.tracker.active.crossName = 0 ∨ s.tracker.cross = none →
     exec .debounceExpiry s = .next
       { s with
         pen := { s.pen with tip := .down, debounce := none }
         gate := { s.gate with
           gate := some { openTime := s.time, frameCount := 0, crowded := false,
                          comparedLength := s.gate.active.length }
           tally := [], dwell := .empty }
         echo := { s.echo with picked := none }
         moment := { s.moment with echo := [] } }) ∧
  (∀ (i : Interval) (c : CrossRecord) (s : State), s.pen.debounce = some i →
     i.length ≤ (s.time - i.since).toNat → s.pen.tip = .up → s.tracker.state = .off → Settled s →
     s.tracker.active.crossName ≠ 0 → s.tracker.sightedThisFrame = true ∨ s.tracker.sightedLastFrame = true →
     s.tracker.cross = some c → TrackSettingsSound s.tracker.active →
     ∃ t, exec .debounceExpiry s = .next t ∧
       t.pen = { s.pen with tip := .down, debounce := none } ∧
       t.tracker.state = .tracking ∧ t.tracker.lossCount = 0 ∧ t.tracker.lastReported = none ∧
       t.tracker.sightedThisFrame = false ∧ t.tracker.sightedLastFrame = false ∧
       t.tracker.cross = some { c with substituted := false } ∧
       t.tracker.tx.toNat = max s.tracker.active.xmin.toNat
         (min s.tracker.active.xmax.toNat (c.word.extractLsb' 10 10).toNat) ∧
       t.tracker.ty.toNat = max s.tracker.active.ymin.toNat
         (min s.tracker.active.ymax.toNat (c.word.extractLsb' 0 10).toNat) ∧
       t.gate = s.gate ∧ t.echo = s.echo ∧ t.reports = s.reports ∧ t.time = s.time) ∧
  (∀ (i : Interval) (s : State), s.pen.debounce = some i → i.length ≤ (s.time - i.since).toNat →
     s.pen.tip = .down → Settled s →
     ∃ t, exec .debounceExpiry s = .next t ∧
       t.pen = { s.pen with tip := .up, debounce := none } ∧
       t.tracker = (if s.tracker.state = .off then s.tracker else runEndTracker s.tracker) ∧
       (∃ l, l.Perm (decisionReports false s ++ runEndReports 1 s) ∧ t.reports = reportsAsked l s) ∧
       (s.gate.gate = none → t.gate = s.gate ∧ t.echo = s.echo) ∧
       (∀ g, s.gate.gate = some g →
         t.gate = { s.gate with gate := none, tally := [], lastPick := t.gate.lastPick } ∧
         (s.gate.tally = [] → t.gate.lastPick = s.gate.lastPick ∧ t.echo = s.echo) ∧
         (∀ w, tallyWinner g.openTime s.gate.tally = some w →
           t.gate.lastPick = some (pickedLast w.latest) ∧
           (w.latest.locked = true → t.echo = s.echo) ∧
           (w.latest.locked = false → w.key.item = none →
             t.echo = { s.echo with picked := some w.key.name }) ∧
           (w.latest.locked = false → ∀ k d, w.key.item = some k → w.latest.item = some d →
             t.echo =
               if w.latest.stale then s.echo
               else { s.echo with
                 item := some { textAddr := d.textAddr, start := d.start, length := d.length, frames := 8 } }))) ∧
       t.loft = s.loft ∧ t.follower = s.follower ∧ t.store = s.store ∧ t.time = s.time ∧
       t.choices = s.choices + 1) ∧
  (∀ (i : Interval) (c : CrossRecord) (at_ : Time) (s : State), s.pen.debounce = some i →
     i.length ≤ (s.time - i.since).toNat → s.pen.tip = .up → NoticesTaken s →
     s.handed = { gate := [], tracker := [.sighting at_] } → s.tracker.state = .off →
     s.tracker.active.crossName ≠ 0 → s.tracker.cross = some c → s.tracker.sightedThisFrame = false →
     s.tracker.sightedLastFrame = false → s.gate.gate = none →
     ∃ t, exec .debounceExpiry s = .next t ∧ t.pen = { s.pen with tip := .down, debounce := none } ∧
       ((ResultsTaken t ∧ t.tracker.state = .tracking ∧ t.tracker.sightedThisFrame = false ∧ t.gate = s.gate) ∨
        (t.handed = s.handed ∧ t.tracker = s.tracker ∧ t.gate.gate ≠ none ∧
          (settleResults t).tracker = { s.tracker with sightedThisFrame := true }))) ∧
  (∀ (at_ : Time) (s : State), s.tracker.state ≠ .off → takeCross (.sighting at_) s = s) ∧
  (∀ (i : Interval) (g : OpenGate) (w : Winner) (s : State), s.pen.debounce = some i →
     i.length ≤ (s.time - i.since).toNat → s.pen.tip = .down → NoticesTaken s →
     s.handed = { gate := [w], tracker := [] } → s.gate.gate = some g →
     let reports := fun (u : State) => decisionReports false u ++ runEndReports 1 s
     ∃ t l, exec .debounceExpiry s = .next t ∧ t.gate.gate = none ∧ t.gate.tally = [] ∧ t.reports = reportsAsked l s ∧
       ((ResultsTaken t ∧ l.Perm (reports (gateWinner w s))) ∨
        (t.handed = s.handed ∧ l.Perm (reports s) ∧ (settleResults t).gate.gate = none ∧
          (settleResults t).gate.tally = [])))

/-- FRAME_TIMEOUT_EXPIRY after tFT ms: the display is STOPPED, the timeout disarmed and one DISPLAY-STOPPED asked for;
the follow state stays. An OPEN gate closes with a STOPPED MISS or decision, and a run ends with reason STOPPED, its
report and its write-back, the reports in any order; a winner neither LOCKED nor STALE is echoed, the segment or the
item (R26, R27, R107, R110, R111, R151, R152, R154, R174, R176). The Pen Front End's
copies take the change within the microsecond (R68, assumption log 20). -/
def Obligations.FrameTimeoutStopsTheDisplay : Prop :=
  ∀ s : State, Settled s → s.follower.timeoutArmed = true → s.follower.display = .running →
    s.follower.tFT * 1000 ≤ (s.time - s.follower.timeoutSince).toNat →
    let stopped : Report :=
      { kind := .condition, frame := s.follower.frameNo, stamp := s.time, code := some 7 }
    ∃ t, exec .frameTimeoutExpiry s = .next t ∧
      t.follower = { s.follower with display := .stopped, timeoutArmed := false } ∧
      t.tracker = (if s.tracker.state = .off then s.tracker else runEndTracker s.tracker) ∧
      (∃ l, l.Perm (stopped :: decisionReports true s ++ runEndReports 3 s) ∧ t.reports = reportsAsked l s) ∧
      (s.gate.gate = none → t.gate = s.gate ∧ t.echo = s.echo) ∧
      (∀ g, s.gate.gate = some g →
        t.gate = { s.gate with gate := none, tally := [], lastPick := t.gate.lastPick } ∧
        (s.gate.tally = [] → t.gate.lastPick = s.gate.lastPick ∧ t.echo = s.echo) ∧
        (∀ w, tallyWinner g.openTime s.gate.tally = some w →
          t.gate.lastPick = some (pickedLast w.latest) ∧
          (w.latest.locked = true → t.echo = s.echo) ∧
          (w.latest.locked = false → w.key.item = none →
            t.echo = { s.echo with picked := some w.key.name }) ∧
          (w.latest.locked = false → ∀ k d, w.key.item = some k → w.latest.item = some d →
            t.echo =
              if w.latest.stale then s.echo
              else { s.echo with
                item := some { textAddr := d.textAddr, start := d.start, length := d.length, frames := 8 } }))) ∧
      t.pen = s.pen ∧ t.pass = s.pass ∧ t.segments = s.segments ∧ t.store = s.store ∧ t.time = s.time ∧
      t.choices = s.choices + 1

/-! ### Counts of frames -/

/-- A gate that reaches its length closes with one report of the decision, a MISS for an empty Tally, and an empty
Tally. It does so inside the D_READ whose RESTART makes the frame end that raises its count to the active length (R107,
R108, R109, R110, R111). A winner neither LOCKED nor STALE is echoed, an item with 8 frames left, or 7 when the Echo
Unit takes the frame end after the request (R174, R176). The row GATE_CLOSE_BY_LENGTH acts on comparedLength, the length
last compared with: assumption log 7, DEDUCED. It acts on a gate that has reached it, which no sound state holds between
steps, and changes nothing below it: the model's choice, assumption log 6. -/
def Obligations.GateClosesByLength : Prop :=
  (∀ (a target : Addr) (x y : Coord) (g : OpenGate) (s : State), AtRestart a target s → GateSound s.gate →
     s.gate.gate = some g → s.gate.active.length ≤ g.frameCount + 1 →
     let nothingElse := s.tracker.state = .off ∧ s.follower.display = .running ∧ s.reports.shadow = none
     let noDrop := ∀ e ∈ s.segments.entries, e.dropPending = false
     ∃ t, exec (.dRead a x y) s = .next t ∧
       t.gate.gate = none ∧ t.gate.tally = [] ∧ t.gate.dwell = .empty ∧
       (s.gate.tally = [] → t.gate.lastPick = s.gate.lastPick ∧ (noDrop → t.echo.picked = s.echo.picked) ∧
         (nothingElse → t.reports = (requestReport
           { kind := .miss, frame := s.follower.frameNo + 1, stamp := s.time } s).reports)) ∧
       (∀ w, tallyWinner g.openTime s.gate.tally = some w →
         t.gate.lastPick = some (pickedLast w.latest) ∧
         (nothingElse → t.reports = (requestReport (gateDecision g false w
           (tallyRunner g.openTime s.gate.tally w) (s.follower.frameNo + 1) s.time) s).reports) ∧
         (noDrop → w.latest.locked = false → w.key.item = none → t.echo.picked = some w.key.name) ∧
         (noDrop → w.latest.locked = true ∨ w.key.item.isSome = true → t.echo.picked = s.echo.picked) ∧
         (w.latest.locked = true ∨ w.latest.stale = true ∨ w.key.item = none →
           t.echo.item = echoOneFrameOn s.echo.item) ∧
         (w.latest.locked = false → w.latest.stale = false → ∀ k d, w.key.item = some k → w.latest.item = some d →
           ∃ n, (n = 7 ∨ n = 8) ∧ t.echo.item =
             some { textAddr := d.textAddr, start := d.start, length := d.length, frames := n }))) ∧
  (∀ (g : OpenGate) (s : State), s.gate.gate = some g → Settled s →
    (g.comparedLength ≤ g.frameCount → ∃ t, exec .gateCloseByLength s = .next t ∧
      t.gate.gate = none ∧ t.gate.tally = [] ∧ t.gate.dwell = s.gate.dwell ∧
      (s.gate.tally = [] →
        t = (requestReport { kind := .miss, frame := s.follower.frameNo, stamp := s.time } s).setGate
          { s.gate with gate := none, tally := [] }) ∧
      (∀ w, tallyWinner g.openTime s.gate.tally = some w →
        t.gate.lastPick = some (pickedLast w.latest) ∧
        t.reports = (requestReport (gateDecision g false w (tallyRunner g.openTime s.gate.tally w)
          s.follower.frameNo s.time) s).reports ∧
        (w.latest.locked = false → w.key.item = none → t.echo.picked = some w.key.name) ∧
        (w.latest.locked = false → ∀ k d, w.key.item = some k → w.latest.item = some d →
          t.echo =
            if w.latest.stale then s.echo
            else { s.echo with
              item := some { textAddr := d.textAddr, start := d.start, length := d.length, frames := 8 } }) ∧
        (w.latest.locked = true → t.echo = s.echo))) ∧
    (g.frameCount < g.comparedLength → exec .gateCloseByLength s = .next s))

/-- A dwell that reaches its limit at a CLOSED gate, for an unspent item key: one ITEM report with DWELL, the key
spent, the last-pick record set, and the item echoed when it is neither LOCKED nor STALE. It does so inside the D_READ
whose RESTART makes the frame end that raises its count to the active dwell; the echo then has 8 frames left, or 7
when the Echo Unit takes the frame end after the request (R111, R114, R115, R176). The row DWELL_REPORT acts on
comparedDwell, the dwell last compared with: assumption log 7, DEDUCED. It acts on a count that has reached it, which
no sound state holds between steps, and changes nothing below it: the model's choice, assumption log 6. -/
def Obligations.DwellIsReportedOnce : Prop :=
  (∀ (a target : Addr) (x y : Coord) (key : Key) (snap : Snapshot) (i : ItemDesc) (s : State),
     AtRestart a target s → s.gate.gate = none → s.gate.dwell.key = some key → key.item.isSome = true →
     s.gate.dwell.snapshot = some snap → snap.item = some i → s.gate.dwell.spent = false →
     s.gate.dwell.won = true → s.gate.active.dwell ≤ s.gate.dwell.count + 1 →
     ∃ t, exec (.dRead a x y) s = .next t ∧
       t.gate.dwell = { s.gate.dwell with
         count := s.gate.dwell.count + 1, spent := true, won := false, candidate := none
         comparedDwell := s.gate.active.dwell } ∧
       t.gate.lastPick = some (pickedLast snap) ∧
       (s.tracker.state = .off → s.follower.display = .running → s.reports.shadow = none → t.reports = (requestReport
         { kind := .item, frame := s.follower.frameNo + 1, stamp := s.time
           flags := { edited := snap.edited, locked := snap.locked, stale := snap.stale, dwell := true }
           side := snap.side, name := some key.name, item := key.item, orderAddr := some snap.orderAddr
           path := snap.path, loft := some (snap.loftA, snap.loftB)
           sample := some (snap.sampleX, snap.sampleY)
           itemSpan := some (i.start, if snap.stale then 0 else i.length)
           winnerVotes := s.gate.dwell.count + 1 } s).reports) ∧
       (snap.locked = true ∨ snap.stale = true → t.echo.item = echoOneFrameOn s.echo.item) ∧
       (snap.locked = false → snap.stale = false → ∃ n, (n = 7 ∨ n = 8) ∧
         t.echo.item = some { textAddr := i.textAddr, start := i.start, length := i.length, frames := n })) ∧
  (∀ (key : Key) (snap : Snapshot) (i : ItemDesc) (s : State), Settled s → s.gate.gate = none →
    s.gate.dwell.key = some key → key.item.isSome = true → s.gate.dwell.snapshot = some snap →
    snap.item = some i → s.gate.dwell.spent = false →
    (s.gate.dwell.comparedDwell ≤ s.gate.dwell.count → ∃ t, exec .dwellReport s = .next t ∧
      t.gate = { s.gate with
        dwell := { s.gate.dwell with spent := true }
        lastPick := some (pickedLast snap) } ∧
      t.reports = (requestReport
        { kind := .item, frame := s.follower.frameNo, stamp := s.time
          flags := { edited := snap.edited, locked := snap.locked, stale := snap.stale, dwell := true }
          side := snap.side, name := some key.name, item := key.item, orderAddr := some snap.orderAddr
          path := snap.path, loft := some (snap.loftA, snap.loftB)
          sample := some (snap.sampleX, snap.sampleY)
          itemSpan := some (i.start, if snap.stale then 0 else i.length)
          winnerVotes := s.gate.dwell.count } s).reports ∧
      t.echo = { s.echo with
        item :=
          if snap.locked || snap.stale then s.echo.item
          else some { textAddr := i.textAddr, start := i.start, length := i.length, frames := 8 } } ∧
      t.tracker = s.tracker ∧ t.store = s.store ∧ t.time = s.time) ∧
    (s.gate.dwell.count < s.gate.dwell.comparedDwell → exec .dwellReport s = .next s))

/-- A TRACKING run that reaches its loss limit is LOST with one TRACK-LOST of its position, by the active view; it
does so inside the D_READ whose RESTART makes the frame end that raises its loss count to T. A run that goes on
TRACKING there reports a moved position with one TRACK. An item echo loses one frame there, and ends at 0 (R149, R150,
R154, R176). The rows TRACK_LOST, acting on comparedLoss, and ITEM_ECHO_EXPIRY are assumption log 7, DEDUCED: they act
on a count that has reached its limit, which no sound state holds between steps, and the latter changes nothing at
another count: the model's choice, assumption log 6. -/
def Obligations.LossAndEchoLimits : Prop :=
  (∀ (a target : Addr) (x y : Coord) (s : State), AtRestart a target s → GateQuiet s →
     s.follower.display = .running → s.reports.shadow = none →
     let missed := if s.tracker.crossStruck then 0 else min 15 (s.tracker.lossCount + 1)
     let report := fun kind => (requestReport (trackingReport kind (s.follower.frameNo + 1) s) s).reports
     ∃ t, exec (.dRead a x y) s = .next t ∧
       t.echo.item = echoOneFrameOn s.echo.item ∧
       (s.tracker.state = .lost → t.reports = s.reports) ∧
       (s.tracker.state = .tracking → s.tracker.active.lossLimit ≤ missed →
         t.tracker.state = .lost ∧ t.tracker.lossCount = missed ∧ t.reports = report .trackLost) ∧
       (s.tracker.state = .tracking → missed < s.tracker.active.lossLimit →
         t.tracker.state = .tracking ∧ t.tracker.lossCount = missed ∧
         t.tracker.lastReported = some (s.tracker.tx, s.tracker.ty) ∧
         t.reports =
           if s.tracker.lastReported = some (s.tracker.tx, s.tracker.ty) then s.reports else report .track)) ∧
  (∀ s : State,
    (Settled s → s.tracker.state = .tracking → s.tracker.comparedLoss ≤ s.tracker.lossCount →
      ∃ t, exec .trackLost s = .next t ∧
        t.tracker = { s.tracker with state := .lost } ∧
        t.reports = (requestReport (trackingReport .trackLost s.follower.frameNo s) s).reports ∧
        t.gate = s.gate ∧ t.echo = s.echo ∧ t.store = s.store ∧ t.time = s.time) ∧
    (∀ i, s.echo.item = some i →
      (i.frames = 0 →
        exec .itemEchoExpiry s = .next { s with echo := { s.echo with item := none } }) ∧
      (i.frames ≠ 0 → exec .itemEchoExpiry s = .next s)))

/-! ### Choosing and reckoning -/

/-- With no opaque level the effective name is the innermost level's and the path lists every level; with one, both
end at the level outside the outermost opaque level; a path has one to eight names, and name 0 reads as the defaults
(R20). -/
def Obligations.EffectiveNameAndPath : Prop :=
  ∀ (f : Follower), f.pushed.length ≤ 7 →
    ((∀ l ∈ f.pushed, l.opaqueCall = false) →
      pathNow f = f.rootName :: f.pushed.map (·.name) ∧
      nameNow f = ((f.pushed.map (·.name)).getLast?).getD f.rootName) ∧
    (∀ outer level inner, f.pushed = outer ++ level :: inner → level.opaqueCall = true →
      (∀ l ∈ outer, l.opaqueCall = false) →
      pathNow f = f.rootName :: outer.map (·.name) ∧
      nameNow f = ((outer.map (·.name)).getLast?).getD f.rootName) ∧
    1 ≤ (pathNow f).length ∧ (pathNow f).length ≤ 8 ∧ (pathNow f).getLast? = some (nameNow f) ∧
    ∀ s : State, attributesOf s 0 =
      { classPart := .draw, sensitivity := .pick, priority := 0, highlight := .none, boost := 1 }

/-- The filtered candidates are ranked by falling priority, and among equal priorities the later in the history
first (R86). -/
def Obligations.RankingIsByPriorityThenLatest : Prop :=
  ∀ (s : State) (c : List HistoryEntry), SegmentsSound s.segments →
    (rankCandidates s c).Perm c ∧
    (rankCandidates s c).Pairwise (fun x y =>
      (attributesOf s y.name).priority ≤ (attributesOf s x.name).priority) ∧
    ∀ p, (rankCandidates s c).filter (fun e => (attributesOf s e.name).priority == p) =
      (c.filter (fun e => (attributesOf s e.name).priority == p)).reverse

/-- The character index is the floor of the beam's distance from the start over the pitch, clamped below the
lesser of the count and the characters fetched; where that is 0 there is none, and the candidate is passed over
(R88). -/
def Obligations.CharacterIndexUnderTheBeam : Prop :=
  ∀ (t : TextPart) (bx : Coord), 0 < t.pitch →
    (min t.count t.fetched = 0 → characterIndex t bx = none ∧
      ∀ (s : State) (by_ : Coord) (e : HistoryEntry) (l : List HistoryEntry), menuText e = some t →
        firstWinner s bx by_ (e :: l) = firstWinner s bx by_ l) ∧
    (0 < min t.count t.fetched → ∃ (raw : Int) (i : Nat), characterIndex t bx = some i ∧
      raw * t.pitch ≤ (bx.toNat : Int) - t.startX.toNat ∧
      (bx.toNat : Int) - t.startX.toNat < (raw + 1) * t.pitch ∧
      (t.pitch = 7 → -147 ≤ raw ∧ raw ≤ 146) ∧
      (i : Int) = max 0 (min (((min t.count t.fetched : Nat) : Int) - 1) raw))

/-- The winner is the first ranked candidate that is no menu candidate or yields an item; there is none when every
candidate is a menu candidate that yields nothing (R90). A menu candidate with a character index yields the item that
holds the index, with its place in the list, of the Menu Map entry at its address, where that is valid, is of its name
and count, and has scanned the index; and otherwise nothing (R89). -/
def Obligations.WinnerIsTheFirstThatResolves : Prop :=
  ∀ (s : State) (bx by_ : Coord) (l : List HistoryEntry),
    let resolves := fun (e : HistoryEntry) (k : Key) =>
      (menuText e = none ∧ k = { name := e.name, item := none }) ∨
      (∃ t i, menuText e = some t ∧ yieldedItem s.menuMap e t bx = some i ∧
        k = { name := e.name, item := some i.1 })
    let passedOver := fun (e : HistoryEntry) =>
      ∃ t, menuText e = some t ∧ yieldedItem s.menuMap e t bx = none
    ((∀ e ∈ l, passedOver e) → firstWinner s bx by_ l = none) ∧
    (∀ before e after k, l = before ++ e :: after → (∀ x ∈ before, passedOver x) → resolves e k →
      ∃ w, firstWinner s bx by_ l = some w ∧ w.key = k ∧ w.orderAddr = e.addr ∧ w.path = e.path ∧
        w.edited = e.edited ∧ w.sampleX = bx ∧ w.sampleY = by_ ∧ w.time = s.time) ∧
    (∀ (e : HistoryEntry) (t : TextPart),
      (characterIndex t bx = none → yieldedItem s.menuMap e t bx = none) ∧
      (∀ i, characterIndex t bx = some i →
        let holds := fun (m : Item) => m.start ≤ i ∧ i < m.start + m.length
        ((∀ m ∈ s.menuMap, m.addr ≠ e.addr) → yieldedItem s.menuMap e t bx = none) ∧
        (∀ newer m others, s.menuMap = newer ++ m :: others → (∀ o ∈ newer, o.addr ≠ e.addr) → m.addr = e.addr →
          let serves := m.valid = true ∧ m.name = e.name ∧ m.count = t.count ∧ i < m.scanned
          (¬serves ∨ (∀ j ∈ m.items, ¬holds j) → yieldedItem s.menuMap e t bx = none) ∧
          (serves → ∀ before j after, m.items = before ++ j :: after → (∀ o ∈ before, ¬holds o) → holds j →
            yieldedItem s.menuMap e t bx = some (before.length, j)))))

/-- A decision's winner is in the Tally and no entry stands before it: more votes, then higher top priority, then
the later last vote reckoned from the open time; the runner-up is the same among the other keys (R109). -/
def Obligations.DecisionTakesTheMostVotes : Prop :=
  ∀ (openTime : Time) (l : List TallyEntry),
    let notBehind := fun (w e : TallyEntry) =>
      e.votes < w.votes ∨ (e.votes = w.votes ∧ (e.topPriority < w.topPriority ∨
        (e.topPriority = w.topPriority ∧
          (e.lastVote - openTime).toNat ≤ (w.lastVote - openTime).toNat)))
    (l = [] ↔ tallyWinner openTime l = none) ∧
    ∀ w, tallyWinner openTime l = some w →
      w ∈ l ∧ (∀ e ∈ l, notBehind w e) ∧
      ((∀ e ∈ l, e.key = w.key) ↔ tallyRunner openTime l w = none) ∧
      ∀ r, tallyRunner openTime l w = some r →
        r ∈ l ∧ r.key ≠ w.key ∧ (∀ e ∈ l, e.key ≠ w.key → notBehind r e) ∧
        (isAmbiguous w (some r) = true ↔ w.votes ≤ 2 * r.votes)

/-- The four rounding modes: exact where the quotient is whole; otherwise RM next below, RP next above, RZ toward
zero, RN to the nearer and from a half away from zero. Scaling and the grid snap use the one active mode, and the
station form none (R127). -/
def Obligations.RoundingModes : Prop :=
  (∀ (n : Int) (d : Nat), 0 < d →
    (∀ (q : Int) (mode : Rounding), n = q * d → roundDiv mode n d = q) ∧
    (∀ q : Int, q * d < n → n < (q + 1) * d →
      roundDiv .rm n d = q ∧ roundDiv .rp n d = q + 1 ∧
      roundDiv .rz n d = (if n < 0 then q + 1 else q) ∧
      (2 * (n - q * d) < d → roundDiv .rn n d = q) ∧
      ((d : Int) < 2 * (n - q * d) → roundDiv .rn n d = q + 1) ∧
      (2 * (n - q * d) = d → roundDiv .rn n d = if n < 0 then q else q + 1))) ∧
  ∀ (v : ViewSettings) (mode : Rounding) (offset origin x : Int),
    scaled { v with rounding := mode } offset origin = origin + roundDiv mode (offset * v.scale) 256 ∧
    (v.grid ≠ 0 → snapped { v with rounding := mode } x = v.grid * roundDiv mode x v.grid) ∧
    stationFrame { v with rounding := mode } x = stationFrame v x

/-- No stage overflows: a product divided by 256 is at most 196,350, the sum at most 1,196,349, and every loft value
fits the report's 24-bit field, within 1,206,347 either way (R128, R129). -/
def Obligations.LoftValuesStayInRange : Prop :=
  ∀ (v : ViewSettings) (sx sy : Coord), ViewSettingsSound v →
    |(offsetA v sx).1 * v.scale| ≤ 50265345 ∧ |((sy.toNat : Int) - 512) * v.scale| ≤ 33553920 ∧
    |roundDiv v.rounding ((offsetA v sx).1 * v.scale) 256| ≤ 196350 ∧
    |scaled v (offsetA v sx).1 v.originA| ≤ 1196349 ∧
    |scaled v ((sy.toNat : Int) - 512) v.originB| ≤ 1196349 ∧
    |(convert v sx sy).loftA| ≤ 1206347 ∧ |(convert v sx sy).loftB| ≤ 1206347 ∧
    (BitVec.ofInt 24 (convert v sx sy).loftA).toInt = (convert v sx sy).loftA ∧
    (BitVec.ofInt 24 (convert v sx sy).loftB).toInt = (convert v sx sy).loftB

/-- The station form: the frame is the floor of the distance from frame zero over the spacing, the offset what is
left, and both stay in their ranges (R130). The STATION readout: the frame's sign and three digits, '+', the offset's
four digits, and "stored" beyond; or overflow marks throughout for axis B, a value computed in BODY view, a text of
fewer than nine characters or a frame outside -999 to 999 (R137). -/
def Obligations.StationFormIsExact : Prop :=
  (∀ (v : ViewSettings) (a : Int), ViewSettingsSound v →
    stationFrame v a * v.spacing + stationOffset v a = a - v.frameZero ∧
    0 ≤ stationOffset v a ∧ stationOffset v a < v.spacing ∧
    (|a| ≤ 1206347 → -22064 ≤ stationFrame v a ∧ stationFrame v a ≤ 22063)) ∧
  (∀ (v : ViewSettings) (p : ReadoutPart) (pt : LoftPoint) (n i : Nat), ViewSettingsSound v →
    p.form = .station → i < n →
    let f := stationFrame v pt.loftA
    let o := (stationOffset v pt.loftA).toNat
    let digit := fun (k : Nat) => (BitVec.ofNat 7 (0x30 + k % 10) : Glyph)
    (p.axis = .b ∨ pt.side ≠ .none ∨ n < 9 ∨ f < -999 ∨ 999 < f →
      readoutEntry v p pt n i = some p.overflowMark) ∧
    (p.axis = .a → pt.side = .none → 9 ≤ n → -999 ≤ f → f ≤ 999 →
      readoutEntry v p pt n i =
        [if f < 0 then 0x2D#7 else 0x2B#7, digit (f.natAbs / 100), digit (f.natAbs / 10), digit f.natAbs, 0x2B#7,
          digit (o / 1000), digit (o / 100), digit (o / 10), digit o][i]?))

/-- The LINEAR readout: the sign at index 0, the magnitude in the last of the D digit positions after fill, "stored"
beyond, and overflow marks where the magnitude takes more than D digits; seven digits show every loft value (R135,
R136). -/
def Obligations.LinearReadoutShowsTheValue : Prop :=
  ∀ (p : ReadoutPart) (v : Int) (n : Nat), 1 ≤ n → 1 ≤ p.digits →
    let d := min p.digits (n - 1)
    let digits := if v = 0 then [0] else (Nat.digits 10 v.natAbs).reverse
    let magnitude : List Glyph := digits.map (fun c => BitVec.ofNat 7 (0x30 + c))
    let fill : Glyph := match p.fill with | .zero => 0x30#7 | .blank => 0x20#7
    linearEntry p v n 0 = some (if v < 0 then 0x2D#7 else 0x2B#7) ∧
    (∀ i, d < i → linearEntry p v n i = none) ∧
    (1 ≤ d → magnitude.length ≤ d → ∀ i, 1 ≤ i → i ≤ d → linearEntry p v n i =
      (List.replicate (d - magnitude.length) fill ++ magnitude)[i - 1]?) ∧
    (d < magnitude.length → ∀ i, 1 ≤ i → i ≤ d → linearEntry p v n i = some p.overflowMark) ∧
    (7 ≤ d → v.natAbs ≤ 1206347 → magnitude.length ≤ d)

/-- A cross strike moves the position along one axis only, the axis of the greater distance and Y on a tie, by the
distance over 2^k, rounded, and clamped into the box. In LOST it also reacquires the run, with one TRACK report of the
new position, with REACQUIRED set, by the active view (R148, R154). A cross result taken in OFF is discarded. One still
to be taken at a tip-up is taken first, and the run ends at the moved position, or is discarded after the run has ended
(R148, R151). -/
def Obligations.CrossStrikeMovesOneAxis : Prop :=
  (∀ (x y : Coord) (s : State), TrackerSound s.tracker → s.tracker.state ≠ .off →
    let u := s.tracker
    let t := (trackCross x y s).tracker
    let place := convert s.loft.active t.tx t.ty
    let dx := (x.toNat : Int) - u.tx.toNat
    let dy := (y.toNat : Int) - u.ty.toNat
    t.state = .tracking ∧ t.crossStruck = true ∧ t.active = u.active ∧ t.cross = u.cross ∧
    (u.state = .lost → t.lossCount = 0 ∧ t.lastReported = some (t.tx, t.ty) ∧
      (trackCross x y s).reports = (requestReport
        { kind := .track, flags := { reacquired := true }, side := place.side, frame := s.follower.frameNo
          name := some u.active.crossName, orderAddr := u.cross.map (·.addr), loft := some (place.loftA, place.loftB)
          sample := some (t.tx, t.ty), stamp := s.time } s).reports) ∧
    (u.state = .tracking → t.lossCount = u.lossCount ∧ t.lastReported = u.lastReported ∧
      (trackCross x y s).reports = s.reports) ∧
    (dy.natAbs < dx.natAbs → t.ty = u.ty ∧
      (t.tx.toNat : Int) = max (u.active.xmin.toNat : Int) (min (u.active.xmax.toNat : Int)
        ((u.tx.toNat : Int) + roundDiv s.loft.active.rounding dx (2 ^ u.active.gainShift)))) ∧
    (dx.natAbs ≤ dy.natAbs → t.tx = u.tx ∧
      (t.ty.toNat : Int) = max (u.active.ymin.toNat : Int) (min (u.active.ymax.toNat : Int)
        ((u.ty.toNat : Int) + roundDiv s.loft.active.rounding dy (2 ^ u.active.gainShift))))) ∧
  (∀ (at_ : Time) (x y : Coord) (s : State), s.tracker.state = .off → takeCross (.result at_ x y) s = s) ∧
  (∀ (i : Interval) (at_ : Time) (x y : Coord) (s : State), s.pen.debounce = some i →
    i.length ≤ (s.time - i.since).toNat → s.pen.tip = .down → NoticesTaken s →
    s.handed = { gate := [], tracker := [.result at_ x y] } → s.tracker.state ≠ .off →
    ∃ t, exec .debounceExpiry s = .next t ∧ t.pen = { s.pen with tip := .up, debounce := none } ∧
      ((ResultsTaken t ∧ t.tracker = runEndTracker (trackCross x y s).tracker) ∨
       (t.handed = s.handed ∧ t.tracker = runEndTracker s.tracker ∧
        (settleResults t).tracker = runEndTracker s.tracker)))

/-- What the Echo Unit delivers differs from the stored word only in an ATTR's intensity and blink, a MOVE's X and Y,
and a TEXT operand's characters, and only with the display RUNNING on a followed fetch; an emphasis bit that is stored
set is delivered set. An ATTR of the picked segment is delivered by its highlight and boost, and any other as stored. A
MOVE at the recorded cross order, under the cross name and during a run, is delivered at the tracking position, and any
other as stored. A TEXT operand of the text record is delivered with its glyphs unless the text is a readout, and
emphasised exactly where it was stored so or lies within the count and the hovered or echoed item; any other as stored.
A readout's characters show the entries of one string, formed from the value source at first index 0, or later where no
string of that text is held, and kept for the words after it. The D_READ of an ATTR or of a TEXT operand word drives
that word on BD (R132, R134, R159, R171, R172, R175, R177, R178, R179, R180). -/
def Obligations.DeliveryAltersOnlyItsFields : Prop :=
  (∀ (c : DecodeContext) (w : Word) (s : State),
    let d := (deliver c w s).1
    let byte := fun (q : Nat) (v : Word) => v.extractLsb' (16 - 8 * q) 8
    let within := fun (start length k : Nat) => start ≤ k ∧ k < start + length
    (c.followed = false ∨ s.follower.display = .stopped → deliver c w s = (w, s)) ∧
    (c.operand = 0 → d.extractLsb' 20 4 = w.extractLsb' 20 4) ∧
    (c.operand = 0 → c.order = .attr → d.extractLsb' 5 19 = w.extractLsb' 5 19) ∧
    (c.operand = 0 → c.order ≠ .attr → (∀ x y, c.order ≠ .move x y) → d = w) ∧
    (c.operand ≠ 0 → (∀ size n, c.order ≠ .text size n) → d = w) ∧
    (c.operand ≠ 0 → ∀ i ∈ [7, 15, 23], w.getLsbD i = true → d.getLsbD i = true) ∧
    (c.followed = true → s.follower.display = .running → c.operand = 0 → c.order = .attr →
      s.echo.picked = some c.name →
      let h := (attributesOf s c.name).highlight
      let b := (attributesOf s c.name).boost
      let i := (w.extractLsb' 0 4).toNat
      (d.extractLsb' 0 4).toNat =
        (match h with | .none | .blink => i | .bright => min 15 (i + b) | .dim => max 1 (i - b)) ∧
      d.getLsbD 4 = (w.getLsbD 4 || h == .blink)) ∧
    (c.operand = 0 → c.order = .attr → s.echo.picked ≠ some c.name → d = w) ∧
    (c.operand ≠ 0 → (∀ t, s.echo.text = some t → t.addr ≠ c.addr) → deliver c w s = (w, s)) ∧
    (c.followed = true → s.follower.display = .running → c.operand = 0 → (∃ x y, c.order = .move x y) →
      d = if s.tracker.state ≠ .off ∧ s.tracker.cross.map (·.addr) = some c.addr ∧
          c.name = s.tracker.active.crossName then
        w.extractLsb' 20 4 ++ s.tracker.tx ++ s.tracker.ty
      else w) ∧
    (∀ t size n, c.followed = true → s.follower.display = .running → c.operand ≠ 0 →
      c.order = .text size n → s.echo.text = some t → t.addr = c.addr →
      (∀ q < 3,
        let k := 3 * (c.operand - 1) + q
        (byte q d).getLsbD 7 = ((byte q w).getLsbD 7 ||
          decide (k < t.count ∧
            ((∃ h, s.gate.hover = some h ∧ h.item.textAddr = t.addr ∧ within h.item.start h.item.length k) ∨
             (∃ e, s.echo.item = some e ∧ e.textAddr = t.addr ∧ within e.start e.length k)))) ∧
        (t.readout = false → (byte q d).extractLsb' 0 7 = (byte q w).extractLsb' 0 7)) ∧
      (t.readout = false → (deliver c w s).2 = s) ∧
      (t.readout = true → ∃ r, (deliver c w s).2 = s.setLoft { s.loft with readout := some r } ∧
        (∀ q < 3, (byte q d).extractLsb' 0 7 =
          ((r.entries[3 * (c.operand - 1) + q]?).join).getD ((byte q w).extractLsb' 0 7)) ∧
        (∀ held, s.loft.readout = some held → c.operand ≠ 1 → held.addr = t.addr → held.count = t.count →
          r = held) ∧
        (c.operand = 1 ∨ (∀ held, s.loft.readout = some held → held.addr ≠ t.addr ∨ held.count ≠ t.count) →
          r.addr = t.addr ∧ r.count = t.count ∧ ∀ k < t.count, r.entries[k]? = some
          (match (attributesOf s t.name).classPart, s.tracker.state with
            | .readout p, .off => s.gate.lastPick.bind (fun l => readoutEntry s.loft.active p
                { loftA := l.loftA, loftB := l.loftB, side := l.side } t.count k)
            | .readout p, _ => readoutEntry s.loft.active p
                (convert s.loft.active s.tracker.tx s.tracker.ty) t.count k
            | _, _ => none))))) ∧
  (∀ (a : Addr) (x y : Coord) (s : State), PassingGranted s → s.follower.follow = .following →
    s.follower.expected = some a →
    (s.follower.inProgress = none → decodeOrder (s.word a) = .attr →
      ∃ t, exec (.dRead a x y) s = .next t ∧ t.store = s.store ∧
        t.pins.bd = (deliver
          { followed := true, addr := a, order := .attr, operand := 0, name := nameNow s.follower
            path := pathNow s.follower } (s.word a) s).1) ∧
    (∀ p size n, s.follower.inProgress = some p → p.order = .text size n →
      let ctx : DecodeContext :=
        { followed := true, addr := p.addr, order := p.order, operand := p.fetched, name := p.name, path := p.path }
      ∃ t, exec (.dRead a x y) s = .next t ∧ t.store = s.store ∧
        t.pins.bd = (deliver ctx (s.word a) s).1 ∧ t.loft = (deliver ctx (s.word a) s).2.loft))

/-- The Pending Queue takes a TRACK in place of a queued one, appends it where there is room, and drops it without a
trace where there is none. Any other report is appended where there is room. A full queue gives up its TRACK for any
other report, and without one drops the new report and sets the gap flag; the next record to enter carries it (R187,
R188, and the appending of R186). -/
def Obligations.QueueCoalescesTracksAndMarksGaps : Prop :=
  (∀ (r : Report) (w : ReportWriter), r.kind = .track → w.queue.length ≤ 4 →
     (w.queue.filter (fun q => q.kind == .track)).length ≤ 1 →
     let u := w.enqueue r
     u.writeOut = w.writeOut ∧
     (∀ before old after, w.queue = before ++ old :: after → old.kind = .track →
       u = { w with
         gap := false
         queue := before ++ { r with flags := { r.flags with
           gap := r.flags.gap || old.flags.gap || w.gap
           reacquired := r.flags.reacquired || old.flags.reacquired } } :: after }) ∧
     ((∀ q ∈ w.queue, q.kind ≠ .track) → w.queue.length < 4 →
       u = { w with
         gap := false
         queue := w.queue ++ [{ r with flags := { r.flags with gap := r.flags.gap || w.gap } }] }) ∧
     ((∀ q ∈ w.queue, q.kind ≠ .track) → w.queue.length = 4 → u = w)) ∧
  (∀ (r : Report) (w : ReportWriter), r.kind ≠ .track → w.queue.length < 4 →
     w.enqueue r = { w with
       gap := false
       queue := w.queue ++ [{ r with flags := { r.flags with gap := r.flags.gap || w.gap } }] }) ∧
  (∀ (r : Report) (w : ReportWriter), r.kind ≠ .track → w.queue.length = 4 →
     (w.queue.filter (fun q => q.kind == .track)).length ≤ 1 →
     let u := w.enqueue r
     (∀ before old after, w.queue = before ++ old :: after → old.kind = .track →
       u = { w with
         gap := false
         queue := before ++ after ++
           [{ r with flags := { r.flags with gap := r.flags.gap || w.gap } }] }) ∧
     ((∀ q ∈ w.queue, q.kind ≠ .track) → u = { w with gap := true }))

/-! ### Invariants that every step keeps -/

/-- The store keeps its canonical form, the Consumption List its bound and the Segment Table its names, bound and
legal values (R32, R43, R49, R50). -/
def Obligations.StepKeepsStoreAndTables : Prop :=
  ∀ s t : State, StoreSound s → ConsumptionSound s.pass.consumption → SegmentsSound s.segments →
    step s = .next t →
    StoreSound t ∧ ConsumptionSound t.pass.consumption ∧ SegmentsSound t.segments

/-- The Order Follower stays sound (R5, R6, R9, R16, R21, R23, R26). The Pen Front End's copies of the two states change
only to the states as they are, or to their values after a reset (R25, R68, R77, R78), and the Pen Front End stays sound
against its lines (R65, R66, R67, R70, R72, R74). -/
def Obligations.StepKeepsFollowerAndPenSound : Prop :=
  (∀ s t : State, FollowerSound s.follower → step s = .next t → FollowerSound t.follower) ∧
  (∀ s t : State, step s = .next t →
     (t.pen.followCopy = s.pen.followCopy ∧ t.pen.displayCopy = s.pen.displayCopy) ∨ CopiesSound t ∨
     ((∃ v rest, s.pending = .powerUp v :: rest ∨ s.pending = .busInit v :: rest) ∧
       t.pen.followCopy = .waiting ∧ t.pen.displayCopy = .running)) ∧
  (∀ s t : State, PenSound s.pen s.pins → step s = .next t → PenSound t.pen t.pins)

/-- The Menu Map, the Echo Unit's records and the Loft Arithmetic Unit stay sound (R93, R95, R122, R132, R173,
R176). -/
def Obligations.StepKeepsMenuEchoAndLoftSound : Prop :=
  ∀ s t : State, MenuMapSound s.menuMap → EchoSound s.echo → LoftSound s.loft → step s = .next t →
    MenuMapSound t.menuMap ∧ EchoSound t.echo ∧ LoftSound t.loft

/-- The Gate Unit stays sound: one Tally of at most 8 keys, a gate below its length, a dwell below its limit (R101,
R102, R105, R108, R112, R114, R116). The Tracking Unit stays sound: the position in the box, a TRACKING run below its
loss limit (R38, R140, R141, R147, R149, R150, R151). -/
def Obligations.StepKeepsGateAndTrackerSound : Prop :=
  (∀ s t : State, GateSound s.gate → step s = .next t → GateSound t.gate) ∧
  (∀ s t : State, TrackerSound s.tracker → step s = .next t → TrackerSound t.tracker)

/-- The Report Writer stays sound: ATTENTION exactly while a slot is WRITTEN, at most one TRACK in a queue of at
most four, one slot FILLING, a ring that lies in the store (R39, R186, R189, R192, R194, R195, R196). -/
def Obligations.StepKeepsReportsSound : Prop :=
  ∀ s t : State, ReportsSound s.reports → step s = .next t → ReportsSound t.reports

/-- The Store Passage stays sound: BWAIT exactly while a cycle waits, no own cycle under the lock, and the request
behind the cycle in progress still outstanding (R157, R160, R163, R164, R166, R169). -/
def Obligations.StepKeepsPassageSound : Prop :=
  ∀ s t : State, PassageSound s → step s = .next t → PassageSound t
end

