-- ==== Sys2Proof/Laws/State.lean ====
section
/-! SUPPORT. The block updates of State: what each field reads after each of them, true by definition. -/

namespace Sys2Proof.Machine

section
variable (s : State) (x : Sys2Proof.Time)

@[simp] theorem State.setTime_time : (s.setTime x).time = x := rfl
@[simp] theorem State.setTime_pins : (s.setTime x).pins = s.pins := rfl
@[simp] theorem State.setTime_store : (s.setTime x).store = s.store := rfl
@[simp] theorem State.setTime_follower : (s.setTime x).follower = s.follower := rfl
@[simp] theorem State.setTime_pass : (s.setTime x).pass = s.pass := rfl
@[simp] theorem State.setTime_segments : (s.setTime x).segments = s.segments := rfl
@[simp] theorem State.setTime_pen : (s.setTime x).pen = s.pen := rfl
@[simp] theorem State.setTime_menuMap : (s.setTime x).menuMap = s.menuMap := rfl
@[simp] theorem State.setTime_gate : (s.setTime x).gate = s.gate := rfl
@[simp] theorem State.setTime_loft : (s.setTime x).loft = s.loft := rfl
@[simp] theorem State.setTime_tracker : (s.setTime x).tracker = s.tracker := rfl
@[simp] theorem State.setTime_echo : (s.setTime x).echo = s.echo := rfl
@[simp] theorem State.setTime_reports : (s.setTime x).reports = s.reports := rfl
@[simp] theorem State.setTime_passage : (s.setTime x).passage = s.passage := rfl
@[simp] theorem State.setTime_handed : (s.setTime x).handed = s.handed := rfl
@[simp] theorem State.setTime_moment : (s.setTime x).moment = s.moment := rfl
@[simp] theorem State.setTime_choices : (s.setTime x).choices = s.choices := rfl
@[simp] theorem State.setTime_pending : (s.setTime x).pending = s.pending := rfl

end

section
variable (s : State) (x : Pins)

@[simp] theorem State.setPins_time : (s.setPins x).time = s.time := rfl
@[simp] theorem State.setPins_pins : (s.setPins x).pins = x := rfl
@[simp] theorem State.setPins_store : (s.setPins x).store = s.store := rfl
@[simp] theorem State.setPins_follower : (s.setPins x).follower = s.follower := rfl
@[simp] theorem State.setPins_pass : (s.setPins x).pass = s.pass := rfl
@[simp] theorem State.setPins_segments : (s.setPins x).segments = s.segments := rfl
@[simp] theorem State.setPins_pen : (s.setPins x).pen = s.pen := rfl
@[simp] theorem State.setPins_menuMap : (s.setPins x).menuMap = s.menuMap := rfl
@[simp] theorem State.setPins_gate : (s.setPins x).gate = s.gate := rfl
@[simp] theorem State.setPins_loft : (s.setPins x).loft = s.loft := rfl
@[simp] theorem State.setPins_tracker : (s.setPins x).tracker = s.tracker := rfl
@[simp] theorem State.setPins_echo : (s.setPins x).echo = s.echo := rfl
@[simp] theorem State.setPins_reports : (s.setPins x).reports = s.reports := rfl
@[simp] theorem State.setPins_passage : (s.setPins x).passage = s.passage := rfl
@[simp] theorem State.setPins_handed : (s.setPins x).handed = s.handed := rfl
@[simp] theorem State.setPins_moment : (s.setPins x).moment = s.moment := rfl
@[simp] theorem State.setPins_choices : (s.setPins x).choices = s.choices := rfl
@[simp] theorem State.setPins_pending : (s.setPins x).pending = s.pending := rfl

end

section
variable (s : State) (x : Store)

@[simp] theorem State.setStore_time : (s.setStore x).time = s.time := rfl
@[simp] theorem State.setStore_pins : (s.setStore x).pins = s.pins := rfl
@[simp] theorem State.setStore_store : (s.setStore x).store = x := rfl
@[simp] theorem State.setStore_follower : (s.setStore x).follower = s.follower := rfl
@[simp] theorem State.setStore_pass : (s.setStore x).pass = s.pass := rfl
@[simp] theorem State.setStore_segments : (s.setStore x).segments = s.segments := rfl
@[simp] theorem State.setStore_pen : (s.setStore x).pen = s.pen := rfl
@[simp] theorem State.setStore_menuMap : (s.setStore x).menuMap = s.menuMap := rfl
@[simp] theorem State.setStore_gate : (s.setStore x).gate = s.gate := rfl
@[simp] theorem State.setStore_loft : (s.setStore x).loft = s.loft := rfl
@[simp] theorem State.setStore_tracker : (s.setStore x).tracker = s.tracker := rfl
@[simp] theorem State.setStore_echo : (s.setStore x).echo = s.echo := rfl
@[simp] theorem State.setStore_reports : (s.setStore x).reports = s.reports := rfl
@[simp] theorem State.setStore_passage : (s.setStore x).passage = s.passage := rfl
@[simp] theorem State.setStore_handed : (s.setStore x).handed = s.handed := rfl
@[simp] theorem State.setStore_moment : (s.setStore x).moment = s.moment := rfl
@[simp] theorem State.setStore_choices : (s.setStore x).choices = s.choices := rfl
@[simp] theorem State.setStore_pending : (s.setStore x).pending = s.pending := rfl

end

section
variable (s : State) (x : Follower)

@[simp] theorem State.setFollower_time : (s.setFollower x).time = s.time := rfl
@[simp] theorem State.setFollower_pins : (s.setFollower x).pins = s.pins := rfl
@[simp] theorem State.setFollower_store : (s.setFollower x).store = s.store := rfl
@[simp] theorem State.setFollower_follower : (s.setFollower x).follower = x := rfl
@[simp] theorem State.setFollower_pass : (s.setFollower x).pass = s.pass := rfl
@[simp] theorem State.setFollower_segments : (s.setFollower x).segments = s.segments := rfl
@[simp] theorem State.setFollower_pen : (s.setFollower x).pen = s.pen := rfl
@[simp] theorem State.setFollower_menuMap : (s.setFollower x).menuMap = s.menuMap := rfl
@[simp] theorem State.setFollower_gate : (s.setFollower x).gate = s.gate := rfl
@[simp] theorem State.setFollower_loft : (s.setFollower x).loft = s.loft := rfl
@[simp] theorem State.setFollower_tracker : (s.setFollower x).tracker = s.tracker := rfl
@[simp] theorem State.setFollower_echo : (s.setFollower x).echo = s.echo := rfl
@[simp] theorem State.setFollower_reports : (s.setFollower x).reports = s.reports := rfl
@[simp] theorem State.setFollower_passage : (s.setFollower x).passage = s.passage := rfl
@[simp] theorem State.setFollower_handed : (s.setFollower x).handed = s.handed := rfl
@[simp] theorem State.setFollower_moment : (s.setFollower x).moment = s.moment := rfl
@[simp] theorem State.setFollower_choices : (s.setFollower x).choices = s.choices := rfl
@[simp] theorem State.setFollower_pending : (s.setFollower x).pending = s.pending := rfl

end

section
variable (s : State) (x : PassDecoder)

@[simp] theorem State.setPass_time : (s.setPass x).time = s.time := rfl
@[simp] theorem State.setPass_pins : (s.setPass x).pins = s.pins := rfl
@[simp] theorem State.setPass_store : (s.setPass x).store = s.store := rfl
@[simp] theorem State.setPass_follower : (s.setPass x).follower = s.follower := rfl
@[simp] theorem State.setPass_pass : (s.setPass x).pass = x := rfl
@[simp] theorem State.setPass_segments : (s.setPass x).segments = s.segments := rfl
@[simp] theorem State.setPass_pen : (s.setPass x).pen = s.pen := rfl
@[simp] theorem State.setPass_menuMap : (s.setPass x).menuMap = s.menuMap := rfl
@[simp] theorem State.setPass_gate : (s.setPass x).gate = s.gate := rfl
@[simp] theorem State.setPass_loft : (s.setPass x).loft = s.loft := rfl
@[simp] theorem State.setPass_tracker : (s.setPass x).tracker = s.tracker := rfl
@[simp] theorem State.setPass_echo : (s.setPass x).echo = s.echo := rfl
@[simp] theorem State.setPass_reports : (s.setPass x).reports = s.reports := rfl
@[simp] theorem State.setPass_passage : (s.setPass x).passage = s.passage := rfl
@[simp] theorem State.setPass_handed : (s.setPass x).handed = s.handed := rfl
@[simp] theorem State.setPass_moment : (s.setPass x).moment = s.moment := rfl
@[simp] theorem State.setPass_choices : (s.setPass x).choices = s.choices := rfl
@[simp] theorem State.setPass_pending : (s.setPass x).pending = s.pending := rfl

end

section
variable (s : State) (x : SegmentTable)

@[simp] theorem State.setSegments_time : (s.setSegments x).time = s.time := rfl
@[simp] theorem State.setSegments_pins : (s.setSegments x).pins = s.pins := rfl
@[simp] theorem State.setSegments_store : (s.setSegments x).store = s.store := rfl
@[simp] theorem State.setSegments_follower : (s.setSegments x).follower = s.follower := rfl
@[simp] theorem State.setSegments_pass : (s.setSegments x).pass = s.pass := rfl
@[simp] theorem State.setSegments_segments : (s.setSegments x).segments = x := rfl
@[simp] theorem State.setSegments_pen : (s.setSegments x).pen = s.pen := rfl
@[simp] theorem State.setSegments_menuMap : (s.setSegments x).menuMap = s.menuMap := rfl
@[simp] theorem State.setSegments_gate : (s.setSegments x).gate = s.gate := rfl
@[simp] theorem State.setSegments_loft : (s.setSegments x).loft = s.loft := rfl
@[simp] theorem State.setSegments_tracker : (s.setSegments x).tracker = s.tracker := rfl
@[simp] theorem State.setSegments_echo : (s.setSegments x).echo = s.echo := rfl
@[simp] theorem State.setSegments_reports : (s.setSegments x).reports = s.reports := rfl
@[simp] theorem State.setSegments_passage : (s.setSegments x).passage = s.passage := rfl
@[simp] theorem State.setSegments_handed : (s.setSegments x).handed = s.handed := rfl
@[simp] theorem State.setSegments_moment : (s.setSegments x).moment = s.moment := rfl
@[simp] theorem State.setSegments_choices : (s.setSegments x).choices = s.choices := rfl
@[simp] theorem State.setSegments_pending : (s.setSegments x).pending = s.pending := rfl

end

section
variable (s : State) (x : Pen)

@[simp] theorem State.setPen_time : (s.setPen x).time = s.time := rfl
@[simp] theorem State.setPen_pins : (s.setPen x).pins = s.pins := rfl
@[simp] theorem State.setPen_store : (s.setPen x).store = s.store := rfl
@[simp] theorem State.setPen_follower : (s.setPen x).follower = s.follower := rfl
@[simp] theorem State.setPen_pass : (s.setPen x).pass = s.pass := rfl
@[simp] theorem State.setPen_segments : (s.setPen x).segments = s.segments := rfl
@[simp] theorem State.setPen_pen : (s.setPen x).pen = x := rfl
@[simp] theorem State.setPen_menuMap : (s.setPen x).menuMap = s.menuMap := rfl
@[simp] theorem State.setPen_gate : (s.setPen x).gate = s.gate := rfl
@[simp] theorem State.setPen_loft : (s.setPen x).loft = s.loft := rfl
@[simp] theorem State.setPen_tracker : (s.setPen x).tracker = s.tracker := rfl
@[simp] theorem State.setPen_echo : (s.setPen x).echo = s.echo := rfl
@[simp] theorem State.setPen_reports : (s.setPen x).reports = s.reports := rfl
@[simp] theorem State.setPen_passage : (s.setPen x).passage = s.passage := rfl
@[simp] theorem State.setPen_handed : (s.setPen x).handed = s.handed := rfl
@[simp] theorem State.setPen_moment : (s.setPen x).moment = s.moment := rfl
@[simp] theorem State.setPen_choices : (s.setPen x).choices = s.choices := rfl
@[simp] theorem State.setPen_pending : (s.setPen x).pending = s.pending := rfl

end

section
variable (s : State) (x : List MenuEntry)

@[simp] theorem State.setMenuMap_time : (s.setMenuMap x).time = s.time := rfl
@[simp] theorem State.setMenuMap_pins : (s.setMenuMap x).pins = s.pins := rfl
@[simp] theorem State.setMenuMap_store : (s.setMenuMap x).store = s.store := rfl
@[simp] theorem State.setMenuMap_follower : (s.setMenuMap x).follower = s.follower := rfl
@[simp] theorem State.setMenuMap_pass : (s.setMenuMap x).pass = s.pass := rfl
@[simp] theorem State.setMenuMap_segments : (s.setMenuMap x).segments = s.segments := rfl
@[simp] theorem State.setMenuMap_pen : (s.setMenuMap x).pen = s.pen := rfl
@[simp] theorem State.setMenuMap_menuMap : (s.setMenuMap x).menuMap = x := rfl
@[simp] theorem State.setMenuMap_gate : (s.setMenuMap x).gate = s.gate := rfl
@[simp] theorem State.setMenuMap_loft : (s.setMenuMap x).loft = s.loft := rfl
@[simp] theorem State.setMenuMap_tracker : (s.setMenuMap x).tracker = s.tracker := rfl
@[simp] theorem State.setMenuMap_echo : (s.setMenuMap x).echo = s.echo := rfl
@[simp] theorem State.setMenuMap_reports : (s.setMenuMap x).reports = s.reports := rfl
@[simp] theorem State.setMenuMap_passage : (s.setMenuMap x).passage = s.passage := rfl
@[simp] theorem State.setMenuMap_handed : (s.setMenuMap x).handed = s.handed := rfl
@[simp] theorem State.setMenuMap_moment : (s.setMenuMap x).moment = s.moment := rfl
@[simp] theorem State.setMenuMap_choices : (s.setMenuMap x).choices = s.choices := rfl
@[simp] theorem State.setMenuMap_pending : (s.setMenuMap x).pending = s.pending := rfl

end

section
variable (s : State) (x : GateUnit)

@[simp] theorem State.setGate_time : (s.setGate x).time = s.time := rfl
@[simp] theorem State.setGate_pins : (s.setGate x).pins = s.pins := rfl
@[simp] theorem State.setGate_store : (s.setGate x).store = s.store := rfl
@[simp] theorem State.setGate_follower : (s.setGate x).follower = s.follower := rfl
@[simp] theorem State.setGate_pass : (s.setGate x).pass = s.pass := rfl
@[simp] theorem State.setGate_segments : (s.setGate x).segments = s.segments := rfl
@[simp] theorem State.setGate_pen : (s.setGate x).pen = s.pen := rfl
@[simp] theorem State.setGate_menuMap : (s.setGate x).menuMap = s.menuMap := rfl
@[simp] theorem State.setGate_gate : (s.setGate x).gate = x := rfl
@[simp] theorem State.setGate_loft : (s.setGate x).loft = s.loft := rfl
@[simp] theorem State.setGate_tracker : (s.setGate x).tracker = s.tracker := rfl
@[simp] theorem State.setGate_echo : (s.setGate x).echo = s.echo := rfl
@[simp] theorem State.setGate_reports : (s.setGate x).reports = s.reports := rfl
@[simp] theorem State.setGate_passage : (s.setGate x).passage = s.passage := rfl
@[simp] theorem State.setGate_handed : (s.setGate x).handed = s.handed := rfl
@[simp] theorem State.setGate_moment : (s.setGate x).moment = s.moment := rfl
@[simp] theorem State.setGate_choices : (s.setGate x).choices = s.choices := rfl
@[simp] theorem State.setGate_pending : (s.setGate x).pending = s.pending := rfl

end

section
variable (s : State) (x : LoftUnit)

@[simp] theorem State.setLoft_time : (s.setLoft x).time = s.time := rfl
@[simp] theorem State.setLoft_pins : (s.setLoft x).pins = s.pins := rfl
@[simp] theorem State.setLoft_store : (s.setLoft x).store = s.store := rfl
@[simp] theorem State.setLoft_follower : (s.setLoft x).follower = s.follower := rfl
@[simp] theorem State.setLoft_pass : (s.setLoft x).pass = s.pass := rfl
@[simp] theorem State.setLoft_segments : (s.setLoft x).segments = s.segments := rfl
@[simp] theorem State.setLoft_pen : (s.setLoft x).pen = s.pen := rfl
@[simp] theorem State.setLoft_menuMap : (s.setLoft x).menuMap = s.menuMap := rfl
@[simp] theorem State.setLoft_gate : (s.setLoft x).gate = s.gate := rfl
@[simp] theorem State.setLoft_loft : (s.setLoft x).loft = x := rfl
@[simp] theorem State.setLoft_tracker : (s.setLoft x).tracker = s.tracker := rfl
@[simp] theorem State.setLoft_echo : (s.setLoft x).echo = s.echo := rfl
@[simp] theorem State.setLoft_reports : (s.setLoft x).reports = s.reports := rfl
@[simp] theorem State.setLoft_passage : (s.setLoft x).passage = s.passage := rfl
@[simp] theorem State.setLoft_handed : (s.setLoft x).handed = s.handed := rfl
@[simp] theorem State.setLoft_moment : (s.setLoft x).moment = s.moment := rfl
@[simp] theorem State.setLoft_choices : (s.setLoft x).choices = s.choices := rfl
@[simp] theorem State.setLoft_pending : (s.setLoft x).pending = s.pending := rfl

end

section
variable (s : State) (x : Tracker)

@[simp] theorem State.setTracker_time : (s.setTracker x).time = s.time := rfl
@[simp] theorem State.setTracker_pins : (s.setTracker x).pins = s.pins := rfl
@[simp] theorem State.setTracker_store : (s.setTracker x).store = s.store := rfl
@[simp] theorem State.setTracker_follower : (s.setTracker x).follower = s.follower := rfl
@[simp] theorem State.setTracker_pass : (s.setTracker x).pass = s.pass := rfl
@[simp] theorem State.setTracker_segments : (s.setTracker x).segments = s.segments := rfl
@[simp] theorem State.setTracker_pen : (s.setTracker x).pen = s.pen := rfl
@[simp] theorem State.setTracker_menuMap : (s.setTracker x).menuMap = s.menuMap := rfl
@[simp] theorem State.setTracker_gate : (s.setTracker x).gate = s.gate := rfl
@[simp] theorem State.setTracker_loft : (s.setTracker x).loft = s.loft := rfl
@[simp] theorem State.setTracker_tracker : (s.setTracker x).tracker = x := rfl
@[simp] theorem State.setTracker_echo : (s.setTracker x).echo = s.echo := rfl
@[simp] theorem State.setTracker_reports : (s.setTracker x).reports = s.reports := rfl
@[simp] theorem State.setTracker_passage : (s.setTracker x).passage = s.passage := rfl
@[simp] theorem State.setTracker_handed : (s.setTracker x).handed = s.handed := rfl
@[simp] theorem State.setTracker_moment : (s.setTracker x).moment = s.moment := rfl
@[simp] theorem State.setTracker_choices : (s.setTracker x).choices = s.choices := rfl
@[simp] theorem State.setTracker_pending : (s.setTracker x).pending = s.pending := rfl

end

section
variable (s : State) (x : EchoUnit)

@[simp] theorem State.setEcho_time : (s.setEcho x).time = s.time := rfl
@[simp] theorem State.setEcho_pins : (s.setEcho x).pins = s.pins := rfl
@[simp] theorem State.setEcho_store : (s.setEcho x).store = s.store := rfl
@[simp] theorem State.setEcho_follower : (s.setEcho x).follower = s.follower := rfl
@[simp] theorem State.setEcho_pass : (s.setEcho x).pass = s.pass := rfl
@[simp] theorem State.setEcho_segments : (s.setEcho x).segments = s.segments := rfl
@[simp] theorem State.setEcho_pen : (s.setEcho x).pen = s.pen := rfl
@[simp] theorem State.setEcho_menuMap : (s.setEcho x).menuMap = s.menuMap := rfl
@[simp] theorem State.setEcho_gate : (s.setEcho x).gate = s.gate := rfl
@[simp] theorem State.setEcho_loft : (s.setEcho x).loft = s.loft := rfl
@[simp] theorem State.setEcho_tracker : (s.setEcho x).tracker = s.tracker := rfl
@[simp] theorem State.setEcho_echo : (s.setEcho x).echo = x := rfl
@[simp] theorem State.setEcho_reports : (s.setEcho x).reports = s.reports := rfl
@[simp] theorem State.setEcho_passage : (s.setEcho x).passage = s.passage := rfl
@[simp] theorem State.setEcho_handed : (s.setEcho x).handed = s.handed := rfl
@[simp] theorem State.setEcho_moment : (s.setEcho x).moment = s.moment := rfl
@[simp] theorem State.setEcho_choices : (s.setEcho x).choices = s.choices := rfl
@[simp] theorem State.setEcho_pending : (s.setEcho x).pending = s.pending := rfl

end

section
variable (s : State) (x : ReportWriter)

@[simp] theorem State.setReports_time : (s.setReports x).time = s.time := rfl
@[simp] theorem State.setReports_pins : (s.setReports x).pins = s.pins := rfl
@[simp] theorem State.setReports_store : (s.setReports x).store = s.store := rfl
@[simp] theorem State.setReports_follower : (s.setReports x).follower = s.follower := rfl
@[simp] theorem State.setReports_pass : (s.setReports x).pass = s.pass := rfl
@[simp] theorem State.setReports_segments : (s.setReports x).segments = s.segments := rfl
@[simp] theorem State.setReports_pen : (s.setReports x).pen = s.pen := rfl
@[simp] theorem State.setReports_menuMap : (s.setReports x).menuMap = s.menuMap := rfl
@[simp] theorem State.setReports_gate : (s.setReports x).gate = s.gate := rfl
@[simp] theorem State.setReports_loft : (s.setReports x).loft = s.loft := rfl
@[simp] theorem State.setReports_tracker : (s.setReports x).tracker = s.tracker := rfl
@[simp] theorem State.setReports_echo : (s.setReports x).echo = s.echo := rfl
@[simp] theorem State.setReports_reports : (s.setReports x).reports = x := rfl
@[simp] theorem State.setReports_passage : (s.setReports x).passage = s.passage := rfl
@[simp] theorem State.setReports_handed : (s.setReports x).handed = s.handed := rfl
@[simp] theorem State.setReports_moment : (s.setReports x).moment = s.moment := rfl
@[simp] theorem State.setReports_choices : (s.setReports x).choices = s.choices := rfl
@[simp] theorem State.setReports_pending : (s.setReports x).pending = s.pending := rfl

end

section
variable (s : State) (x : Passage)

@[simp] theorem State.setPassage_time : (s.setPassage x).time = s.time := rfl
@[simp] theorem State.setPassage_pins : (s.setPassage x).pins = s.pins := rfl
@[simp] theorem State.setPassage_store : (s.setPassage x).store = s.store := rfl
@[simp] theorem State.setPassage_follower : (s.setPassage x).follower = s.follower := rfl
@[simp] theorem State.setPassage_pass : (s.setPassage x).pass = s.pass := rfl
@[simp] theorem State.setPassage_segments : (s.setPassage x).segments = s.segments := rfl
@[simp] theorem State.setPassage_pen : (s.setPassage x).pen = s.pen := rfl
@[simp] theorem State.setPassage_menuMap : (s.setPassage x).menuMap = s.menuMap := rfl
@[simp] theorem State.setPassage_gate : (s.setPassage x).gate = s.gate := rfl
@[simp] theorem State.setPassage_loft : (s.setPassage x).loft = s.loft := rfl
@[simp] theorem State.setPassage_tracker : (s.setPassage x).tracker = s.tracker := rfl
@[simp] theorem State.setPassage_echo : (s.setPassage x).echo = s.echo := rfl
@[simp] theorem State.setPassage_reports : (s.setPassage x).reports = s.reports := rfl
@[simp] theorem State.setPassage_passage : (s.setPassage x).passage = x := rfl
@[simp] theorem State.setPassage_handed : (s.setPassage x).handed = s.handed := rfl
@[simp] theorem State.setPassage_moment : (s.setPassage x).moment = s.moment := rfl
@[simp] theorem State.setPassage_choices : (s.setPassage x).choices = s.choices := rfl
@[simp] theorem State.setPassage_pending : (s.setPassage x).pending = s.pending := rfl

end

section
variable (s : State) (x : HandOffs)

@[simp] theorem State.setHanded_time : (s.setHanded x).time = s.time := rfl
@[simp] theorem State.setHanded_pins : (s.setHanded x).pins = s.pins := rfl
@[simp] theorem State.setHanded_store : (s.setHanded x).store = s.store := rfl
@[simp] theorem State.setHanded_follower : (s.setHanded x).follower = s.follower := rfl
@[simp] theorem State.setHanded_pass : (s.setHanded x).pass = s.pass := rfl
@[simp] theorem State.setHanded_segments : (s.setHanded x).segments = s.segments := rfl
@[simp] theorem State.setHanded_pen : (s.setHanded x).pen = s.pen := rfl
@[simp] theorem State.setHanded_menuMap : (s.setHanded x).menuMap = s.menuMap := rfl
@[simp] theorem State.setHanded_gate : (s.setHanded x).gate = s.gate := rfl
@[simp] theorem State.setHanded_loft : (s.setHanded x).loft = s.loft := rfl
@[simp] theorem State.setHanded_tracker : (s.setHanded x).tracker = s.tracker := rfl
@[simp] theorem State.setHanded_echo : (s.setHanded x).echo = s.echo := rfl
@[simp] theorem State.setHanded_reports : (s.setHanded x).reports = s.reports := rfl
@[simp] theorem State.setHanded_passage : (s.setHanded x).passage = s.passage := rfl
@[simp] theorem State.setHanded_handed : (s.setHanded x).handed = x := rfl
@[simp] theorem State.setHanded_moment : (s.setHanded x).moment = s.moment := rfl
@[simp] theorem State.setHanded_choices : (s.setHanded x).choices = s.choices := rfl
@[simp] theorem State.setHanded_pending : (s.setHanded x).pending = s.pending := rfl

end

section
variable (s : State) (x : Moment)

@[simp] theorem State.setMoment_time : (s.setMoment x).time = s.time := rfl
@[simp] theorem State.setMoment_pins : (s.setMoment x).pins = s.pins := rfl
@[simp] theorem State.setMoment_store : (s.setMoment x).store = s.store := rfl
@[simp] theorem State.setMoment_follower : (s.setMoment x).follower = s.follower := rfl
@[simp] theorem State.setMoment_pass : (s.setMoment x).pass = s.pass := rfl
@[simp] theorem State.setMoment_segments : (s.setMoment x).segments = s.segments := rfl
@[simp] theorem State.setMoment_pen : (s.setMoment x).pen = s.pen := rfl
@[simp] theorem State.setMoment_menuMap : (s.setMoment x).menuMap = s.menuMap := rfl
@[simp] theorem State.setMoment_gate : (s.setMoment x).gate = s.gate := rfl
@[simp] theorem State.setMoment_loft : (s.setMoment x).loft = s.loft := rfl
@[simp] theorem State.setMoment_tracker : (s.setMoment x).tracker = s.tracker := rfl
@[simp] theorem State.setMoment_echo : (s.setMoment x).echo = s.echo := rfl
@[simp] theorem State.setMoment_reports : (s.setMoment x).reports = s.reports := rfl
@[simp] theorem State.setMoment_passage : (s.setMoment x).passage = s.passage := rfl
@[simp] theorem State.setMoment_handed : (s.setMoment x).handed = s.handed := rfl
@[simp] theorem State.setMoment_moment : (s.setMoment x).moment = x := rfl
@[simp] theorem State.setMoment_choices : (s.setMoment x).choices = s.choices := rfl
@[simp] theorem State.setMoment_pending : (s.setMoment x).pending = s.pending := rfl

end

section
variable (s : State) (x : Nat)

@[simp] theorem State.setChoices_time : (s.setChoices x).time = s.time := rfl
@[simp] theorem State.setChoices_pins : (s.setChoices x).pins = s.pins := rfl
@[simp] theorem State.setChoices_store : (s.setChoices x).store = s.store := rfl
@[simp] theorem State.setChoices_follower : (s.setChoices x).follower = s.follower := rfl
@[simp] theorem State.setChoices_pass : (s.setChoices x).pass = s.pass := rfl
@[simp] theorem State.setChoices_segments : (s.setChoices x).segments = s.segments := rfl
@[simp] theorem State.setChoices_pen : (s.setChoices x).pen = s.pen := rfl
@[simp] theorem State.setChoices_menuMap : (s.setChoices x).menuMap = s.menuMap := rfl
@[simp] theorem State.setChoices_gate : (s.setChoices x).gate = s.gate := rfl
@[simp] theorem State.setChoices_loft : (s.setChoices x).loft = s.loft := rfl
@[simp] theorem State.setChoices_tracker : (s.setChoices x).tracker = s.tracker := rfl
@[simp] theorem State.setChoices_echo : (s.setChoices x).echo = s.echo := rfl
@[simp] theorem State.setChoices_reports : (s.setChoices x).reports = s.reports := rfl
@[simp] theorem State.setChoices_passage : (s.setChoices x).passage = s.passage := rfl
@[simp] theorem State.setChoices_handed : (s.setChoices x).handed = s.handed := rfl
@[simp] theorem State.setChoices_moment : (s.setChoices x).moment = s.moment := rfl
@[simp] theorem State.setChoices_choices : (s.setChoices x).choices = x := rfl
@[simp] theorem State.setChoices_pending : (s.setChoices x).pending = s.pending := rfl

end

section
variable (s : State) (x : List Instr)

@[simp] theorem State.setPending_time : (s.setPending x).time = s.time := rfl
@[simp] theorem State.setPending_pins : (s.setPending x).pins = s.pins := rfl
@[simp] theorem State.setPending_store : (s.setPending x).store = s.store := rfl
@[simp] theorem State.setPending_follower : (s.setPending x).follower = s.follower := rfl
@[simp] theorem State.setPending_pass : (s.setPending x).pass = s.pass := rfl
@[simp] theorem State.setPending_segments : (s.setPending x).segments = s.segments := rfl
@[simp] theorem State.setPending_pen : (s.setPending x).pen = s.pen := rfl
@[simp] theorem State.setPending_menuMap : (s.setPending x).menuMap = s.menuMap := rfl
@[simp] theorem State.setPending_gate : (s.setPending x).gate = s.gate := rfl
@[simp] theorem State.setPending_loft : (s.setPending x).loft = s.loft := rfl
@[simp] theorem State.setPending_tracker : (s.setPending x).tracker = s.tracker := rfl
@[simp] theorem State.setPending_echo : (s.setPending x).echo = s.echo := rfl
@[simp] theorem State.setPending_reports : (s.setPending x).reports = s.reports := rfl
@[simp] theorem State.setPending_passage : (s.setPending x).passage = s.passage := rfl
@[simp] theorem State.setPending_handed : (s.setPending x).handed = s.handed := rfl
@[simp] theorem State.setPending_moment : (s.setPending x).moment = s.moment := rfl
@[simp] theorem State.setPending_choices : (s.setPending x).choices = s.choices := rfl
@[simp] theorem State.setPending_pending : (s.setPending x).pending = x := rfl

end

section
variable (s : State) (x : Notices)

@[simp] theorem State.setNotices_time : (s.setNotices x).time = s.time := rfl
@[simp] theorem State.setNotices_pins : (s.setNotices x).pins = s.pins := rfl
@[simp] theorem State.setNotices_store : (s.setNotices x).store = s.store := rfl
@[simp] theorem State.setNotices_follower : (s.setNotices x).follower = s.follower := rfl
@[simp] theorem State.setNotices_pass : (s.setNotices x).pass = s.pass := rfl
@[simp] theorem State.setNotices_segments : (s.setNotices x).segments = s.segments := rfl
@[simp] theorem State.setNotices_pen : (s.setNotices x).pen = s.pen := rfl
@[simp] theorem State.setNotices_menuMap : (s.setNotices x).menuMap = s.menuMap := rfl
@[simp] theorem State.setNotices_gate : (s.setNotices x).gate = s.gate := rfl
@[simp] theorem State.setNotices_loft : (s.setNotices x).loft = s.loft := rfl
@[simp] theorem State.setNotices_tracker : (s.setNotices x).tracker = s.tracker := rfl
@[simp] theorem State.setNotices_echo : (s.setNotices x).echo = s.echo := rfl
@[simp] theorem State.setNotices_reports : (s.setNotices x).reports = s.reports := rfl
@[simp] theorem State.setNotices_passage : (s.setNotices x).passage = { s.passage with notices := x } := rfl
@[simp] theorem State.setNotices_handed : (s.setNotices x).handed = s.handed := rfl
@[simp] theorem State.setNotices_moment : (s.setNotices x).moment = s.moment := rfl
@[simp] theorem State.setNotices_choices : (s.setNotices x).choices = s.choices := rfl
@[simp] theorem State.setNotices_pending : (s.setNotices x).pending = s.pending := rfl

end

end Sys2Proof.Machine
end

