-- ==== Sys2Proof/Laws/BlockFrames.lean ====
section
/-! SUPPORT. Frames of the blocks' operations: every piece of state an operation leaves as it is. One lemma per
operation; its conjuncts are simp rules. -/

namespace Sys2Proof.Machine

@[simp] theorem arrayWrite_frame (a : Addr) (w : Word) (s : State) :
    (arrayWrite a w s).time = s.time ∧ (arrayWrite a w s).follower = s.follower ∧
    (arrayWrite a w s).pass = s.pass ∧ (arrayWrite a w s).segments = s.segments ∧
    (arrayWrite a w s).pen = s.pen ∧ (arrayWrite a w s).menuMap = s.menuMap ∧ (arrayWrite a w s).gate = s.gate ∧
    (arrayWrite a w s).loft = s.loft ∧ (arrayWrite a w s).tracker = s.tracker ∧
    (arrayWrite a w s).echo = s.echo ∧ (arrayWrite a w s).reports = s.reports ∧
    (arrayWrite a w s).passage = s.passage ∧ (arrayWrite a w s).handed = s.handed ∧
    (arrayWrite a w s).moment = s.moment ∧ (arrayWrite a w s).choices = s.choices ∧
    (arrayWrite a w s).pending = s.pending := by
  unfold arrayWrite
  try dsimp only
  (repeat' apply And.intro) <;> simp

@[simp] theorem arrayRead_frame (a : Addr) (s : State) :
    (arrayRead a s).time = s.time ∧ (arrayRead a s).store = s.store ∧ (arrayRead a s).follower = s.follower ∧
    (arrayRead a s).pass = s.pass ∧ (arrayRead a s).segments = s.segments ∧ (arrayRead a s).pen = s.pen ∧
    (arrayRead a s).menuMap = s.menuMap ∧ (arrayRead a s).gate = s.gate ∧ (arrayRead a s).loft = s.loft ∧
    (arrayRead a s).tracker = s.tracker ∧ (arrayRead a s).echo = s.echo ∧ (arrayRead a s).reports = s.reports ∧
    (arrayRead a s).passage = s.passage ∧ (arrayRead a s).handed = s.handed ∧
    (arrayRead a s).moment = s.moment ∧ (arrayRead a s).choices = s.choices ∧
    (arrayRead a s).pending = s.pending := by
  unfold arrayRead
  try dsimp only
  (repeat' apply And.intro) <;> simp

@[simp] theorem driveBD_frame (w : Word) (s : State) :
    (driveBD w s).time = s.time ∧ (driveBD w s).store = s.store ∧ (driveBD w s).follower = s.follower ∧
    (driveBD w s).pass = s.pass ∧ (driveBD w s).segments = s.segments ∧ (driveBD w s).pen = s.pen ∧
    (driveBD w s).menuMap = s.menuMap ∧ (driveBD w s).gate = s.gate ∧ (driveBD w s).loft = s.loft ∧
    (driveBD w s).tracker = s.tracker ∧ (driveBD w s).echo = s.echo ∧ (driveBD w s).reports = s.reports ∧
    (driveBD w s).passage = s.passage ∧ (driveBD w s).handed = s.handed ∧ (driveBD w s).moment = s.moment ∧
    (driveBD w s).choices = s.choices ∧ (driveBD w s).pending = s.pending := by
  unfold driveBD
  try dsimp only
  (repeat' apply And.intro) <;> simp

@[simp] theorem presentBeam_frame (x y : Coord) (s : State) :
    (presentBeam x y s).time = s.time ∧ (presentBeam x y s).store = s.store ∧
    (presentBeam x y s).follower = s.follower ∧ (presentBeam x y s).pass = s.pass ∧
    (presentBeam x y s).segments = s.segments ∧ (presentBeam x y s).pen = s.pen ∧
    (presentBeam x y s).menuMap = s.menuMap ∧ (presentBeam x y s).gate = s.gate ∧
    (presentBeam x y s).loft = s.loft ∧ (presentBeam x y s).tracker = s.tracker ∧
    (presentBeam x y s).echo = s.echo ∧ (presentBeam x y s).reports = s.reports ∧
    (presentBeam x y s).passage = s.passage ∧ (presentBeam x y s).handed = s.handed ∧
    (presentBeam x y s).moment = s.moment ∧ (presentBeam x y s).choices = s.choices ∧
    (presentBeam x y s).pending = s.pending := by
  unfold presentBeam
  try dsimp only
  (repeat' apply And.intro) <;> simp

@[simp] theorem afterDraw_frame (s : State) :
    (afterDraw s).time = s.time ∧ (afterDraw s).pins = s.pins ∧ (afterDraw s).store = s.store ∧
    (afterDraw s).follower = s.follower ∧ (afterDraw s).pass = s.pass ∧ (afterDraw s).segments = s.segments ∧
    (afterDraw s).pen = s.pen ∧ (afterDraw s).menuMap = s.menuMap ∧ (afterDraw s).gate = s.gate ∧
    (afterDraw s).loft = s.loft ∧ (afterDraw s).tracker = s.tracker ∧ (afterDraw s).echo = s.echo ∧
    (afterDraw s).reports = s.reports ∧ (afterDraw s).passage = s.passage ∧ (afterDraw s).handed = s.handed ∧
    (afterDraw s).moment = s.moment ∧ (afterDraw s).pending = s.pending := by
  unfold afterDraw
  try dsimp only
  (repeat' apply And.intro) <;> simp

@[simp] theorem afterWithdrawal_frame (s : State) :
    (afterWithdrawal s).time = s.time ∧ (afterWithdrawal s).pins = s.pins ∧
    (afterWithdrawal s).store = s.store ∧ (afterWithdrawal s).follower = s.follower ∧
    (afterWithdrawal s).pass = s.pass ∧ (afterWithdrawal s).segments = s.segments ∧
    (afterWithdrawal s).pen = s.pen ∧ (afterWithdrawal s).menuMap = s.menuMap ∧
    (afterWithdrawal s).gate = s.gate ∧ (afterWithdrawal s).loft = s.loft ∧
    (afterWithdrawal s).tracker = s.tracker ∧ (afterWithdrawal s).echo = s.echo ∧
    (afterWithdrawal s).reports = s.reports ∧ (afterWithdrawal s).handed = s.handed ∧
    (afterWithdrawal s).moment = s.moment ∧ (afterWithdrawal s).choices = s.choices ∧
    (afterWithdrawal s).pending = s.pending := by
  unfold afterWithdrawal
  try dsimp only
  (repeat' apply And.intro) <;> (repeat' split) <;> simp

@[simp] theorem enterClaim_frame (r : Report) (i : Nat) (s : State) :
    (enterClaim r i s).time = s.time ∧ (enterClaim r i s).pins = s.pins ∧ (enterClaim r i s).store = s.store ∧
    (enterClaim r i s).follower = s.follower ∧ (enterClaim r i s).pass = s.pass ∧
    (enterClaim r i s).segments = s.segments ∧ (enterClaim r i s).pen = s.pen ∧
    (enterClaim r i s).menuMap = s.menuMap ∧ (enterClaim r i s).gate = s.gate ∧
    (enterClaim r i s).loft = s.loft ∧ (enterClaim r i s).tracker = s.tracker ∧
    (enterClaim r i s).echo = s.echo ∧ (enterClaim r i s).passage = s.passage ∧
    (enterClaim r i s).handed = s.handed ∧ (enterClaim r i s).moment = s.moment ∧
    (enterClaim r i s).choices = s.choices ∧ (enterClaim r i s).pending = s.pending := by
  unfold enterClaim
  try dsimp only
  (repeat' apply And.intro) <;> (repeat' split) <;> simp

@[simp] theorem takeNext_frame (s : State) :
    (takeNext s).time = s.time ∧ (takeNext s).pins = s.pins ∧ (takeNext s).store = s.store ∧
    (takeNext s).follower = s.follower ∧ (takeNext s).pass = s.pass ∧ (takeNext s).segments = s.segments ∧
    (takeNext s).pen = s.pen ∧ (takeNext s).menuMap = s.menuMap ∧ (takeNext s).gate = s.gate ∧
    (takeNext s).loft = s.loft ∧ (takeNext s).tracker = s.tracker ∧ (takeNext s).echo = s.echo ∧
    (takeNext s).passage = s.passage ∧ (takeNext s).handed = s.handed ∧ (takeNext s).moment = s.moment ∧
    (takeNext s).choices = s.choices ∧ (takeNext s).pending = s.pending := by
  unfold takeNext
  try dsimp only
  (repeat' apply And.intro) <;> (repeat' split) <;> simp

@[simp] theorem enterWaiting_frame (o : WriteOut) (s : State) :
    (enterWaiting o s).time = s.time ∧ (enterWaiting o s).pins = s.pins ∧ (enterWaiting o s).store = s.store ∧
    (enterWaiting o s).follower = s.follower ∧ (enterWaiting o s).pass = s.pass ∧
    (enterWaiting o s).segments = s.segments ∧ (enterWaiting o s).pen = s.pen ∧
    (enterWaiting o s).menuMap = s.menuMap ∧ (enterWaiting o s).gate = s.gate ∧
    (enterWaiting o s).loft = s.loft ∧ (enterWaiting o s).tracker = s.tracker ∧
    (enterWaiting o s).echo = s.echo ∧ (enterWaiting o s).passage = s.passage ∧
    (enterWaiting o s).handed = s.handed ∧ (enterWaiting o s).moment = s.moment ∧
    (enterWaiting o s).choices = s.choices ∧ (enterWaiting o s).pending = s.pending := by
  unfold enterWaiting
  try dsimp only
  (repeat' apply And.intro) <;> simp

@[simp] theorem handReport_frame (r : Report) (s : State) :
    (handReport r s).time = s.time ∧ (handReport r s).pins = s.pins ∧ (handReport r s).store = s.store ∧
    (handReport r s).follower = s.follower ∧ (handReport r s).pass = s.pass ∧
    (handReport r s).segments = s.segments ∧ (handReport r s).pen = s.pen ∧
    (handReport r s).menuMap = s.menuMap ∧ (handReport r s).gate = s.gate ∧ (handReport r s).loft = s.loft ∧
    (handReport r s).tracker = s.tracker ∧ (handReport r s).echo = s.echo ∧
    (handReport r s).reports = s.reports ∧ (handReport r s).passage = s.passage ∧
    (handReport r s).handed = s.handed ∧ (handReport r s).choices = s.choices ∧
    (handReport r s).pending = s.pending := by
  unfold handReport
  try dsimp only
  (repeat' apply And.intro) <;> simp

@[simp] theorem settleReports_frame (s : State) :
    (settleReports s).time = s.time ∧ (settleReports s).pins = s.pins ∧ (settleReports s).store = s.store ∧
    (settleReports s).follower = s.follower ∧ (settleReports s).pass = s.pass ∧
    (settleReports s).segments = s.segments ∧ (settleReports s).pen = s.pen ∧
    (settleReports s).menuMap = s.menuMap ∧ (settleReports s).gate = s.gate ∧ (settleReports s).loft = s.loft ∧
    (settleReports s).tracker = s.tracker ∧ (settleReports s).echo = s.echo ∧
    (settleReports s).reports = s.reports ∧ (settleReports s).passage = s.passage ∧
    (settleReports s).handed = s.handed ∧ (settleReports s).choices = s.choices ∧
    (settleReports s).pending = s.pending := by
  unfold settleReports
  try dsimp only
  (repeat' apply And.intro) <;> (repeat' split) <;> simp

@[simp] theorem requestReport_frame (r : Report) (s : State) :
    (requestReport r s).time = s.time ∧ (requestReport r s).pins = s.pins ∧
    (requestReport r s).store = s.store ∧ (requestReport r s).follower = s.follower ∧
    (requestReport r s).pass = s.pass ∧ (requestReport r s).segments = s.segments ∧
    (requestReport r s).pen = s.pen ∧ (requestReport r s).menuMap = s.menuMap ∧
    (requestReport r s).gate = s.gate ∧ (requestReport r s).loft = s.loft ∧
    (requestReport r s).tracker = s.tracker ∧ (requestReport r s).echo = s.echo ∧
    (requestReport r s).passage = s.passage ∧ (requestReport r s).handed = s.handed ∧
    (requestReport r s).choices = s.choices ∧ (requestReport r s).pending = s.pending := by
  unfold requestReport
  try dsimp only
  (repeat' apply And.intro) <;> simp

@[simp] theorem applyRing_frame (r : Ring) (s : State) :
    (applyRing r s).time = s.time ∧ (applyRing r s).pins = s.pins ∧ (applyRing r s).store = s.store ∧
    (applyRing r s).follower = s.follower ∧ (applyRing r s).pass = s.pass ∧
    (applyRing r s).segments = s.segments ∧ (applyRing r s).pen = s.pen ∧ (applyRing r s).menuMap = s.menuMap ∧
    (applyRing r s).gate = s.gate ∧ (applyRing r s).loft = s.loft ∧ (applyRing r s).tracker = s.tracker ∧
    (applyRing r s).echo = s.echo ∧ (applyRing r s).handed = s.handed ∧ (applyRing r s).moment = s.moment ∧
    (applyRing r s).choices = s.choices ∧ (applyRing r s).pending = s.pending := by
  unfold applyRing
  try dsimp only
  (repeat' apply And.intro) <;> (repeat' split) <;> simp

@[simp] theorem afterFill_frame (s : State) :
    (afterFill s).time = s.time ∧ (afterFill s).pins = s.pins ∧ (afterFill s).store = s.store ∧
    (afterFill s).follower = s.follower ∧ (afterFill s).pass = s.pass ∧ (afterFill s).segments = s.segments ∧
    (afterFill s).pen = s.pen ∧ (afterFill s).menuMap = s.menuMap ∧ (afterFill s).gate = s.gate ∧
    (afterFill s).loft = s.loft ∧ (afterFill s).tracker = s.tracker ∧ (afterFill s).echo = s.echo ∧
    (afterFill s).handed = s.handed ∧ (afterFill s).moment = s.moment ∧ (afterFill s).choices = s.choices ∧
    (afterFill s).pending = s.pending := by
  unfold afterFill
  try dsimp only
  (repeat' apply And.intro) <;> (repeat' split) <;> simp

@[simp] theorem reportsFrameEnd_frame (s : State) :
    (reportsFrameEnd s).time = s.time ∧ (reportsFrameEnd s).pins = s.pins ∧
    (reportsFrameEnd s).store = s.store ∧ (reportsFrameEnd s).follower = s.follower ∧
    (reportsFrameEnd s).pass = s.pass ∧ (reportsFrameEnd s).segments = s.segments ∧
    (reportsFrameEnd s).pen = s.pen ∧ (reportsFrameEnd s).menuMap = s.menuMap ∧
    (reportsFrameEnd s).gate = s.gate ∧ (reportsFrameEnd s).loft = s.loft ∧
    (reportsFrameEnd s).tracker = s.tracker ∧ (reportsFrameEnd s).echo = s.echo ∧
    (reportsFrameEnd s).handed = s.handed ∧ (reportsFrameEnd s).moment = s.moment ∧
    (reportsFrameEnd s).choices = s.choices ∧ (reportsFrameEnd s).pending = s.pending := by
  unfold reportsFrameEnd
  try dsimp only
  (repeat' apply And.intro) <;> (repeat' split) <;> simp

@[simp] theorem ringMerge_frame (r : Ring) (s : State) :
    (ringMerge r s).time = s.time ∧ (ringMerge r s).pins = s.pins ∧ (ringMerge r s).store = s.store ∧
    (ringMerge r s).follower = s.follower ∧ (ringMerge r s).pass = s.pass ∧
    (ringMerge r s).segments = s.segments ∧ (ringMerge r s).pen = s.pen ∧ (ringMerge r s).menuMap = s.menuMap ∧
    (ringMerge r s).gate = s.gate ∧ (ringMerge r s).loft = s.loft ∧ (ringMerge r s).tracker = s.tracker ∧
    (ringMerge r s).echo = s.echo ∧ (ringMerge r s).passage = s.passage ∧ (ringMerge r s).handed = s.handed ∧
    (ringMerge r s).moment = s.moment ∧ (ringMerge r s).choices = s.choices ∧
    (ringMerge r s).pending = s.pending := by
  unfold ringMerge
  try dsimp only
  (repeat' apply And.intro) <;> (repeat' split) <;> simp

@[simp] theorem reportsNotice_frame (a : Addr) (d : Word) (s : State) :
    (reportsNotice a d s).time = s.time ∧ (reportsNotice a d s).pins = s.pins ∧
    (reportsNotice a d s).store = s.store ∧ (reportsNotice a d s).follower = s.follower ∧
    (reportsNotice a d s).pass = s.pass ∧ (reportsNotice a d s).segments = s.segments ∧
    (reportsNotice a d s).pen = s.pen ∧ (reportsNotice a d s).menuMap = s.menuMap ∧
    (reportsNotice a d s).gate = s.gate ∧ (reportsNotice a d s).loft = s.loft ∧
    (reportsNotice a d s).tracker = s.tracker ∧ (reportsNotice a d s).echo = s.echo ∧
    (reportsNotice a d s).handed = s.handed ∧ (reportsNotice a d s).moment = s.moment ∧
    (reportsNotice a d s).choices = s.choices ∧ (reportsNotice a d s).pending = s.pending := by
  unfold reportsNotice
  try dsimp only
  (repeat' apply And.intro) <;> (repeat' split) <;> simp

@[simp] theorem claimAnswered_frame (a : Addr) (w : Word) (s : State) :
    (claimAnswered a w s).time = s.time ∧ (claimAnswered a w s).pins = s.pins ∧
    (claimAnswered a w s).store = s.store ∧ (claimAnswered a w s).follower = s.follower ∧
    (claimAnswered a w s).pass = s.pass ∧ (claimAnswered a w s).segments = s.segments ∧
    (claimAnswered a w s).pen = s.pen ∧ (claimAnswered a w s).menuMap = s.menuMap ∧
    (claimAnswered a w s).gate = s.gate ∧ (claimAnswered a w s).loft = s.loft ∧
    (claimAnswered a w s).tracker = s.tracker ∧ (claimAnswered a w s).echo = s.echo ∧
    (claimAnswered a w s).passage = s.passage ∧ (claimAnswered a w s).handed = s.handed ∧
    (claimAnswered a w s).moment = s.moment ∧ (claimAnswered a w s).choices = s.choices ∧
    (claimAnswered a w s).pending = s.pending := by
  unfold claimAnswered
  try dsimp only
  (repeat' apply And.intro) <;> (repeat' split) <;> simp

@[simp] theorem fillAnswered_frame (s : State) :
    (fillAnswered s).time = s.time ∧ (fillAnswered s).pins = s.pins ∧ (fillAnswered s).store = s.store ∧
    (fillAnswered s).follower = s.follower ∧ (fillAnswered s).pass = s.pass ∧
    (fillAnswered s).segments = s.segments ∧ (fillAnswered s).pen = s.pen ∧
    (fillAnswered s).menuMap = s.menuMap ∧ (fillAnswered s).gate = s.gate ∧ (fillAnswered s).loft = s.loft ∧
    (fillAnswered s).tracker = s.tracker ∧ (fillAnswered s).echo = s.echo ∧
    (fillAnswered s).passage = s.passage ∧ (fillAnswered s).handed = s.handed ∧
    (fillAnswered s).moment = s.moment ∧ (fillAnswered s).choices = s.choices ∧
    (fillAnswered s).pending = s.pending := by
  unfold fillAnswered
  try dsimp only
  (repeat' apply And.intro) <;> (repeat' split) <;> simp

@[simp] theorem ownerAnswered_frame (s : State) :
    (ownerAnswered s).time = s.time ∧ (ownerAnswered s).pins = s.pins ∧ (ownerAnswered s).store = s.store ∧
    (ownerAnswered s).follower = s.follower ∧ (ownerAnswered s).pass = s.pass ∧
    (ownerAnswered s).segments = s.segments ∧ (ownerAnswered s).pen = s.pen ∧
    (ownerAnswered s).menuMap = s.menuMap ∧ (ownerAnswered s).gate = s.gate ∧ (ownerAnswered s).loft = s.loft ∧
    (ownerAnswered s).tracker = s.tracker ∧ (ownerAnswered s).echo = s.echo ∧
    (ownerAnswered s).handed = s.handed ∧ (ownerAnswered s).moment = s.moment ∧
    (ownerAnswered s).choices = s.choices ∧ (ownerAnswered s).pending = s.pending := by
  unfold ownerAnswered
  try dsimp only
  (repeat' apply And.intro) <;> (repeat' split) <;> simp

@[simp] theorem createSegment_frame (e : Segment) (a : Addr) (s : State) :
    (createSegment e a s).time = s.time ∧ (createSegment e a s).pins = s.pins ∧
    (createSegment e a s).store = s.store ∧ (createSegment e a s).follower = s.follower ∧
    (createSegment e a s).pass = s.pass ∧ (createSegment e a s).pen = s.pen ∧
    (createSegment e a s).menuMap = s.menuMap ∧ (createSegment e a s).gate = s.gate ∧
    (createSegment e a s).loft = s.loft ∧ (createSegment e a s).tracker = s.tracker ∧
    (createSegment e a s).echo = s.echo ∧ (createSegment e a s).passage = s.passage ∧
    (createSegment e a s).handed = s.handed ∧ (createSegment e a s).choices = s.choices ∧
    (createSegment e a s).pending = s.pending := by
  unfold createSegment
  try dsimp only
  (repeat' apply And.intro) <;> (repeat' split) <;> simp

@[simp] theorem segmentSetup_frame (n : Name) (c : Option CommonFields) (m : Option (Glyph × Trigger)) (a : Addr)
    (s : State) :
    (segmentSetup n c m a s).time = s.time ∧ (segmentSetup n c m a s).pins = s.pins ∧
    (segmentSetup n c m a s).store = s.store ∧ (segmentSetup n c m a s).follower = s.follower ∧
    (segmentSetup n c m a s).pass = s.pass ∧ (segmentSetup n c m a s).pen = s.pen ∧
    (segmentSetup n c m a s).menuMap = s.menuMap ∧ (segmentSetup n c m a s).gate = s.gate ∧
    (segmentSetup n c m a s).loft = s.loft ∧ (segmentSetup n c m a s).tracker = s.tracker ∧
    (segmentSetup n c m a s).echo = s.echo ∧ (segmentSetup n c m a s).passage = s.passage ∧
    (segmentSetup n c m a s).handed = s.handed ∧ (segmentSetup n c m a s).choices = s.choices ∧
    (segmentSetup n c m a s).pending = s.pending := by
  unfold segmentSetup
  try dsimp only
  (repeat' apply And.intro) <;> (repeat' split) <;> simp

@[simp] theorem readoutSetup_frame (n : Name) (p : Option ReadoutPart) (s : State) :
    (readoutSetup n p s).time = s.time ∧ (readoutSetup n p s).pins = s.pins ∧
    (readoutSetup n p s).store = s.store ∧ (readoutSetup n p s).follower = s.follower ∧
    (readoutSetup n p s).pass = s.pass ∧ (readoutSetup n p s).pen = s.pen ∧
    (readoutSetup n p s).menuMap = s.menuMap ∧ (readoutSetup n p s).gate = s.gate ∧
    (readoutSetup n p s).loft = s.loft ∧ (readoutSetup n p s).tracker = s.tracker ∧
    (readoutSetup n p s).echo = s.echo ∧ (readoutSetup n p s).reports = s.reports ∧
    (readoutSetup n p s).passage = s.passage ∧ (readoutSetup n p s).handed = s.handed ∧
    (readoutSetup n p s).moment = s.moment ∧ (readoutSetup n p s).choices = s.choices ∧
    (readoutSetup n p s).pending = s.pending := by
  unfold readoutSetup
  try dsimp only
  (repeat' apply And.intro) <;> simp

@[simp] theorem markSeen_frame (n : Name) (s : State) :
    (markSeen n s).time = s.time ∧ (markSeen n s).pins = s.pins ∧ (markSeen n s).store = s.store ∧
    (markSeen n s).follower = s.follower ∧ (markSeen n s).pass = s.pass ∧ (markSeen n s).pen = s.pen ∧
    (markSeen n s).menuMap = s.menuMap ∧ (markSeen n s).gate = s.gate ∧ (markSeen n s).loft = s.loft ∧
    (markSeen n s).tracker = s.tracker ∧ (markSeen n s).echo = s.echo ∧ (markSeen n s).reports = s.reports ∧
    (markSeen n s).passage = s.passage ∧ (markSeen n s).handed = s.handed ∧ (markSeen n s).moment = s.moment ∧
    (markSeen n s).choices = s.choices ∧ (markSeen n s).pending = s.pending := by
  unfold markSeen
  try dsimp only
  (repeat' apply And.intro) <;> simp

@[simp] theorem markDrop_frame (n : Name) (s : State) :
    (markDrop n s).time = s.time ∧ (markDrop n s).pins = s.pins ∧ (markDrop n s).store = s.store ∧
    (markDrop n s).follower = s.follower ∧ (markDrop n s).pass = s.pass ∧ (markDrop n s).pen = s.pen ∧
    (markDrop n s).menuMap = s.menuMap ∧ (markDrop n s).gate = s.gate ∧ (markDrop n s).loft = s.loft ∧
    (markDrop n s).tracker = s.tracker ∧ (markDrop n s).echo = s.echo ∧ (markDrop n s).reports = s.reports ∧
    (markDrop n s).passage = s.passage ∧ (markDrop n s).handed = s.handed ∧ (markDrop n s).moment = s.moment ∧
    (markDrop n s).choices = s.choices ∧ (markDrop n s).pending = s.pending := by
  unfold markDrop
  try dsimp only
  (repeat' apply And.intro) <;> simp

@[simp] theorem markAllDropped_frame (s : State) :
    (markAllDropped s).time = s.time ∧ (markAllDropped s).pins = s.pins ∧ (markAllDropped s).store = s.store ∧
    (markAllDropped s).follower = s.follower ∧ (markAllDropped s).pass = s.pass ∧
    (markAllDropped s).pen = s.pen ∧ (markAllDropped s).menuMap = s.menuMap ∧ (markAllDropped s).gate = s.gate ∧
    (markAllDropped s).loft = s.loft ∧ (markAllDropped s).tracker = s.tracker ∧
    (markAllDropped s).echo = s.echo ∧ (markAllDropped s).reports = s.reports ∧
    (markAllDropped s).passage = s.passage ∧ (markAllDropped s).handed = s.handed ∧
    (markAllDropped s).moment = s.moment ∧ (markAllDropped s).choices = s.choices ∧
    (markAllDropped s).pending = s.pending := by
  unfold markAllDropped
  try dsimp only
  (repeat' apply And.intro) <;> simp

@[simp] theorem segmentsFrameEnd_frame (s : State) :
    (segmentsFrameEnd s).time = s.time ∧ (segmentsFrameEnd s).pins = s.pins ∧
    (segmentsFrameEnd s).store = s.store ∧ (segmentsFrameEnd s).follower = s.follower ∧
    (segmentsFrameEnd s).pass = s.pass ∧ (segmentsFrameEnd s).pen = s.pen ∧
    (segmentsFrameEnd s).menuMap = s.menuMap ∧ (segmentsFrameEnd s).gate = s.gate ∧
    (segmentsFrameEnd s).loft = s.loft ∧ (segmentsFrameEnd s).tracker = s.tracker ∧
    (segmentsFrameEnd s).echo = s.echo ∧ (segmentsFrameEnd s).reports = s.reports ∧
    (segmentsFrameEnd s).passage = s.passage ∧ (segmentsFrameEnd s).handed = s.handed ∧
    (segmentsFrameEnd s).moment = s.moment ∧ (segmentsFrameEnd s).choices = s.choices ∧
    (segmentsFrameEnd s).pending = s.pending := by
  unfold segmentsFrameEnd
  try dsimp only
  (repeat' apply And.intro) <;> simp

@[simp] theorem handEcho_frame (r : EchoRequest) (s : State) :
    (handEcho r s).time = s.time ∧ (handEcho r s).pins = s.pins ∧ (handEcho r s).store = s.store ∧
    (handEcho r s).follower = s.follower ∧ (handEcho r s).pass = s.pass ∧ (handEcho r s).segments = s.segments ∧
    (handEcho r s).pen = s.pen ∧ (handEcho r s).menuMap = s.menuMap ∧ (handEcho r s).gate = s.gate ∧
    (handEcho r s).loft = s.loft ∧ (handEcho r s).tracker = s.tracker ∧ (handEcho r s).echo = s.echo ∧
    (handEcho r s).reports = s.reports ∧ (handEcho r s).passage = s.passage ∧ (handEcho r s).handed = s.handed ∧
    (handEcho r s).choices = s.choices ∧ (handEcho r s).pending = s.pending := by
  unfold handEcho
  try dsimp only
  (repeat' apply And.intro) <;> simp

@[simp] theorem settleEcho_frame (s : State) :
    (settleEcho s).time = s.time ∧ (settleEcho s).pins = s.pins ∧ (settleEcho s).store = s.store ∧
    (settleEcho s).follower = s.follower ∧ (settleEcho s).pass = s.pass ∧ (settleEcho s).segments = s.segments ∧
    (settleEcho s).pen = s.pen ∧ (settleEcho s).menuMap = s.menuMap ∧ (settleEcho s).gate = s.gate ∧
    (settleEcho s).loft = s.loft ∧ (settleEcho s).tracker = s.tracker ∧ (settleEcho s).echo = s.echo ∧
    (settleEcho s).reports = s.reports ∧ (settleEcho s).passage = s.passage ∧ (settleEcho s).handed = s.handed ∧
    (settleEcho s).choices = s.choices ∧ (settleEcho s).pending = s.pending := by
  unfold settleEcho
  try dsimp only
  (repeat' apply And.intro) <;> simp

@[simp] theorem echoPick_frame (n : Name) (s : State) :
    (echoPick n s).time = s.time ∧ (echoPick n s).pins = s.pins ∧ (echoPick n s).store = s.store ∧
    (echoPick n s).follower = s.follower ∧ (echoPick n s).pass = s.pass ∧ (echoPick n s).segments = s.segments ∧
    (echoPick n s).pen = s.pen ∧ (echoPick n s).menuMap = s.menuMap ∧ (echoPick n s).gate = s.gate ∧
    (echoPick n s).loft = s.loft ∧ (echoPick n s).tracker = s.tracker ∧ (echoPick n s).reports = s.reports ∧
    (echoPick n s).passage = s.passage ∧ (echoPick n s).handed = s.handed ∧ (echoPick n s).choices = s.choices ∧
    (echoPick n s).pending = s.pending := by
  unfold echoPick
  try dsimp only
  (repeat' apply And.intro) <;> simp

@[simp] theorem echoGateOpened_frame (s : State) :
    (echoGateOpened s).time = s.time ∧ (echoGateOpened s).pins = s.pins ∧ (echoGateOpened s).store = s.store ∧
    (echoGateOpened s).follower = s.follower ∧ (echoGateOpened s).pass = s.pass ∧
    (echoGateOpened s).segments = s.segments ∧ (echoGateOpened s).pen = s.pen ∧
    (echoGateOpened s).menuMap = s.menuMap ∧ (echoGateOpened s).gate = s.gate ∧
    (echoGateOpened s).loft = s.loft ∧ (echoGateOpened s).tracker = s.tracker ∧
    (echoGateOpened s).reports = s.reports ∧ (echoGateOpened s).passage = s.passage ∧
    (echoGateOpened s).handed = s.handed ∧ (echoGateOpened s).choices = s.choices ∧
    (echoGateOpened s).pending = s.pending := by
  unfold echoGateOpened
  try dsimp only
  (repeat' apply And.intro) <;> simp

@[simp] theorem echoItem_frame (d : ItemDesc) (s : State) :
    (echoItem d s).time = s.time ∧ (echoItem d s).pins = s.pins ∧ (echoItem d s).store = s.store ∧
    (echoItem d s).follower = s.follower ∧ (echoItem d s).pass = s.pass ∧ (echoItem d s).segments = s.segments ∧
    (echoItem d s).pen = s.pen ∧ (echoItem d s).menuMap = s.menuMap ∧ (echoItem d s).gate = s.gate ∧
    (echoItem d s).loft = s.loft ∧ (echoItem d s).tracker = s.tracker ∧ (echoItem d s).reports = s.reports ∧
    (echoItem d s).passage = s.passage ∧ (echoItem d s).handed = s.handed ∧ (echoItem d s).choices = s.choices ∧
    (echoItem d s).pending = s.pending := by
  unfold echoItem
  try dsimp only
  (repeat' apply And.intro) <;> simp

@[simp] theorem takeEcho_frame (r : EchoRequest) (s : State) :
    (takeEcho r s).time = s.time ∧ (takeEcho r s).pins = s.pins ∧ (takeEcho r s).store = s.store ∧
    (takeEcho r s).follower = s.follower ∧ (takeEcho r s).pass = s.pass ∧ (takeEcho r s).segments = s.segments ∧
    (takeEcho r s).pen = s.pen ∧ (takeEcho r s).menuMap = s.menuMap ∧ (takeEcho r s).gate = s.gate ∧
    (takeEcho r s).loft = s.loft ∧ (takeEcho r s).tracker = s.tracker ∧ (takeEcho r s).reports = s.reports ∧
    (takeEcho r s).passage = s.passage ∧ (takeEcho r s).handed = s.handed ∧ (takeEcho r s).choices = s.choices ∧
    (takeEcho r s).pending = s.pending := by
  unfold takeEcho
  try dsimp only
  (repeat' apply And.intro) <;> (repeat' split) <;> simp

@[simp] theorem echoClear_frame (s : State) :
    (echoClear s).time = s.time ∧ (echoClear s).pins = s.pins ∧ (echoClear s).store = s.store ∧
    (echoClear s).follower = s.follower ∧ (echoClear s).pass = s.pass ∧ (echoClear s).segments = s.segments ∧
    (echoClear s).pen = s.pen ∧ (echoClear s).menuMap = s.menuMap ∧ (echoClear s).gate = s.gate ∧
    (echoClear s).loft = s.loft ∧ (echoClear s).tracker = s.tracker ∧ (echoClear s).reports = s.reports ∧
    (echoClear s).passage = s.passage ∧ (echoClear s).handed = s.handed ∧ (echoClear s).moment = s.moment ∧
    (echoClear s).choices = s.choices ∧ (echoClear s).pending = s.pending := by
  unfold echoClear
  try dsimp only
  (repeat' apply And.intro) <;> simp

@[simp] theorem echoDropped_frame (l : List Name) (s : State) :
    (echoDropped l s).time = s.time ∧ (echoDropped l s).pins = s.pins ∧ (echoDropped l s).store = s.store ∧
    (echoDropped l s).follower = s.follower ∧ (echoDropped l s).pass = s.pass ∧
    (echoDropped l s).segments = s.segments ∧ (echoDropped l s).pen = s.pen ∧
    (echoDropped l s).menuMap = s.menuMap ∧ (echoDropped l s).gate = s.gate ∧ (echoDropped l s).loft = s.loft ∧
    (echoDropped l s).tracker = s.tracker ∧ (echoDropped l s).reports = s.reports ∧
    (echoDropped l s).passage = s.passage ∧ (echoDropped l s).handed = s.handed ∧
    (echoDropped l s).moment = s.moment ∧ (echoDropped l s).choices = s.choices ∧
    (echoDropped l s).pending = s.pending := by
  unfold echoDropped
  try dsimp only
  (repeat' apply And.intro) <;> (repeat' split) <;> simp

@[simp] theorem itemEchoRunOut_frame (s : State) :
    (itemEchoRunOut s).time = s.time ∧ (itemEchoRunOut s).pins = s.pins ∧ (itemEchoRunOut s).store = s.store ∧
    (itemEchoRunOut s).follower = s.follower ∧ (itemEchoRunOut s).pass = s.pass ∧
    (itemEchoRunOut s).segments = s.segments ∧ (itemEchoRunOut s).pen = s.pen ∧
    (itemEchoRunOut s).menuMap = s.menuMap ∧ (itemEchoRunOut s).gate = s.gate ∧
    (itemEchoRunOut s).loft = s.loft ∧ (itemEchoRunOut s).tracker = s.tracker ∧
    (itemEchoRunOut s).reports = s.reports ∧ (itemEchoRunOut s).passage = s.passage ∧
    (itemEchoRunOut s).handed = s.handed ∧ (itemEchoRunOut s).moment = s.moment ∧
    (itemEchoRunOut s).choices = s.choices ∧ (itemEchoRunOut s).pending = s.pending := by
  unfold itemEchoRunOut
  try dsimp only
  (repeat' apply And.intro) <;> (repeat' split) <;> simp

@[simp] theorem echoFrameEnd_frame (s : State) :
    (echoFrameEnd s).time = s.time ∧ (echoFrameEnd s).pins = s.pins ∧ (echoFrameEnd s).store = s.store ∧
    (echoFrameEnd s).follower = s.follower ∧ (echoFrameEnd s).pass = s.pass ∧
    (echoFrameEnd s).segments = s.segments ∧ (echoFrameEnd s).pen = s.pen ∧
    (echoFrameEnd s).menuMap = s.menuMap ∧ (echoFrameEnd s).gate = s.gate ∧ (echoFrameEnd s).loft = s.loft ∧
    (echoFrameEnd s).tracker = s.tracker ∧ (echoFrameEnd s).reports = s.reports ∧
    (echoFrameEnd s).passage = s.passage ∧ (echoFrameEnd s).handed = s.handed ∧
    (echoFrameEnd s).moment = s.moment ∧ (echoFrameEnd s).choices = s.choices ∧
    (echoFrameEnd s).pending = s.pending := by
  unfold echoFrameEnd
  try dsimp only
  (repeat' apply And.intro) <;> simp

@[simp] theorem castVote_frame (g : OpenGate) (w : Winner) (s : State) :
    (castVote g w s).time = s.time ∧ (castVote g w s).pins = s.pins ∧ (castVote g w s).store = s.store ∧
    (castVote g w s).follower = s.follower ∧ (castVote g w s).pass = s.pass ∧
    (castVote g w s).segments = s.segments ∧ (castVote g w s).pen = s.pen ∧
    (castVote g w s).menuMap = s.menuMap ∧ (castVote g w s).loft = s.loft ∧
    (castVote g w s).tracker = s.tracker ∧ (castVote g w s).echo = s.echo ∧
    (castVote g w s).reports = s.reports ∧ (castVote g w s).passage = s.passage ∧
    (castVote g w s).handed = s.handed ∧ (castVote g w s).moment = s.moment ∧
    (castVote g w s).choices = s.choices ∧ (castVote g w s).pending = s.pending := by
  unfold castVote
  try dsimp only
  (repeat' apply And.intro) <;> (repeat' split) <;> simp

@[simp] theorem dwellTake_frame (w : Winner) (s : State) :
    (dwellTake w s).time = s.time ∧ (dwellTake w s).pins = s.pins ∧ (dwellTake w s).store = s.store ∧
    (dwellTake w s).follower = s.follower ∧ (dwellTake w s).pass = s.pass ∧
    (dwellTake w s).segments = s.segments ∧ (dwellTake w s).pen = s.pen ∧ (dwellTake w s).menuMap = s.menuMap ∧
    (dwellTake w s).loft = s.loft ∧ (dwellTake w s).tracker = s.tracker ∧ (dwellTake w s).echo = s.echo ∧
    (dwellTake w s).reports = s.reports ∧ (dwellTake w s).passage = s.passage ∧
    (dwellTake w s).handed = s.handed ∧ (dwellTake w s).moment = s.moment ∧
    (dwellTake w s).choices = s.choices ∧ (dwellTake w s).pending = s.pending := by
  unfold dwellTake
  try dsimp only
  (repeat' apply And.intro) <;> (repeat' split) <;> simp

@[simp] theorem hoverTake_frame (w : Winner) (s : State) :
    (hoverTake w s).time = s.time ∧ (hoverTake w s).pins = s.pins ∧ (hoverTake w s).store = s.store ∧
    (hoverTake w s).follower = s.follower ∧ (hoverTake w s).pass = s.pass ∧
    (hoverTake w s).segments = s.segments ∧ (hoverTake w s).pen = s.pen ∧ (hoverTake w s).menuMap = s.menuMap ∧
    (hoverTake w s).loft = s.loft ∧ (hoverTake w s).tracker = s.tracker ∧ (hoverTake w s).echo = s.echo ∧
    (hoverTake w s).reports = s.reports ∧ (hoverTake w s).passage = s.passage ∧
    (hoverTake w s).handed = s.handed ∧ (hoverTake w s).moment = s.moment ∧
    (hoverTake w s).choices = s.choices ∧ (hoverTake w s).pending = s.pending := by
  unfold hoverTake
  try dsimp only
  (repeat' apply And.intro) <;> (repeat' split) <;> simp

@[simp] theorem gateWinner_frame (w : Winner) (s : State) :
    (gateWinner w s).time = s.time ∧ (gateWinner w s).pins = s.pins ∧ (gateWinner w s).store = s.store ∧
    (gateWinner w s).follower = s.follower ∧ (gateWinner w s).pass = s.pass ∧
    (gateWinner w s).segments = s.segments ∧ (gateWinner w s).pen = s.pen ∧
    (gateWinner w s).menuMap = s.menuMap ∧ (gateWinner w s).loft = s.loft ∧
    (gateWinner w s).tracker = s.tracker ∧ (gateWinner w s).echo = s.echo ∧
    (gateWinner w s).reports = s.reports ∧ (gateWinner w s).passage = s.passage ∧
    (gateWinner w s).handed = s.handed ∧ (gateWinner w s).moment = s.moment ∧
    (gateWinner w s).choices = s.choices ∧
    (gateWinner w s).pending = s.pending := by
  unfold gateWinner
  try dsimp only
  (repeat' apply And.intro) <;> (repeat' split) <;> simp

@[simp] theorem afterPick_frame (k : Key) (p : Snapshot) (s : State) :
    (afterPick k p s).time = s.time ∧ (afterPick k p s).pins = s.pins ∧ (afterPick k p s).store = s.store ∧
    (afterPick k p s).follower = s.follower ∧ (afterPick k p s).pass = s.pass ∧
    (afterPick k p s).segments = s.segments ∧ (afterPick k p s).pen = s.pen ∧
    (afterPick k p s).menuMap = s.menuMap ∧ (afterPick k p s).loft = s.loft ∧
    (afterPick k p s).tracker = s.tracker ∧ (afterPick k p s).reports = s.reports ∧
    (afterPick k p s).passage = s.passage ∧ (afterPick k p s).handed = s.handed ∧
    (afterPick k p s).choices = s.choices ∧ (afterPick k p s).pending = s.pending := by
  unfold afterPick
  try dsimp only
  (repeat' apply And.intro) <;> (repeat' split) <;> simp

@[simp] theorem decideGate_frame (g : OpenGate) (b : Bool) (s : State) :
    (decideGate g b s).time = s.time ∧ (decideGate g b s).pins = s.pins ∧ (decideGate g b s).store = s.store ∧
    (decideGate g b s).follower = s.follower ∧ (decideGate g b s).pass = s.pass ∧
    (decideGate g b s).segments = s.segments ∧ (decideGate g b s).pen = s.pen ∧
    (decideGate g b s).menuMap = s.menuMap ∧ (decideGate g b s).loft = s.loft ∧
    (decideGate g b s).tracker = s.tracker ∧ (decideGate g b s).passage = s.passage ∧
    (decideGate g b s).handed = s.handed ∧ (decideGate g b s).choices = s.choices ∧
    (decideGate g b s).pending = s.pending := by
  unfold decideGate
  try dsimp only
  (repeat' apply And.intro) <;> (repeat' split) <;> simp

@[simp] theorem closeGate_frame (s : State) :
    (closeGate s).time = s.time ∧ (closeGate s).pins = s.pins ∧ (closeGate s).store = s.store ∧
    (closeGate s).follower = s.follower ∧ (closeGate s).pass = s.pass ∧ (closeGate s).segments = s.segments ∧
    (closeGate s).pen = s.pen ∧ (closeGate s).menuMap = s.menuMap ∧ (closeGate s).loft = s.loft ∧
    (closeGate s).tracker = s.tracker ∧ (closeGate s).echo = s.echo ∧ (closeGate s).reports = s.reports ∧
    (closeGate s).passage = s.passage ∧ (closeGate s).handed = s.handed ∧ (closeGate s).moment = s.moment ∧
    (closeGate s).choices = s.choices ∧ (closeGate s).pending = s.pending := by
  unfold closeGate
  try dsimp only
  (repeat' apply And.intro) <;> simp

@[simp] theorem closeDeciding_frame (b : Bool) (s : State) :
    (closeDeciding b s).time = s.time ∧ (closeDeciding b s).pins = s.pins ∧
    (closeDeciding b s).store = s.store ∧ (closeDeciding b s).follower = s.follower ∧
    (closeDeciding b s).pass = s.pass ∧ (closeDeciding b s).segments = s.segments ∧
    (closeDeciding b s).pen = s.pen ∧ (closeDeciding b s).menuMap = s.menuMap ∧
    (closeDeciding b s).loft = s.loft ∧ (closeDeciding b s).tracker = s.tracker ∧
    (closeDeciding b s).passage = s.passage ∧ (closeDeciding b s).handed = s.handed ∧
    (closeDeciding b s).choices = s.choices ∧ (closeDeciding b s).pending = s.pending := by
  unfold closeDeciding
  try dsimp only
  (repeat' apply And.intro) <;> (repeat' split) <;> simp

@[simp] theorem openGate_frame (s : State) :
    (openGate s).time = s.time ∧ (openGate s).pins = s.pins ∧ (openGate s).store = s.store ∧
    (openGate s).follower = s.follower ∧ (openGate s).pass = s.pass ∧ (openGate s).segments = s.segments ∧
    (openGate s).pen = s.pen ∧ (openGate s).menuMap = s.menuMap ∧ (openGate s).loft = s.loft ∧
    (openGate s).tracker = s.tracker ∧ (openGate s).reports = s.reports ∧ (openGate s).passage = s.passage ∧
    (openGate s).handed = s.handed ∧ (openGate s).choices = s.choices ∧ (openGate s).pending = s.pending := by
  unfold openGate
  try dsimp only
  (repeat' apply And.intro) <;> (repeat' split) <;> simp

@[simp] theorem raiseGateCount_frame (s : State) :
    (raiseGateCount s).time = s.time ∧ (raiseGateCount s).pins = s.pins ∧ (raiseGateCount s).store = s.store ∧
    (raiseGateCount s).follower = s.follower ∧ (raiseGateCount s).pass = s.pass ∧
    (raiseGateCount s).segments = s.segments ∧ (raiseGateCount s).pen = s.pen ∧
    (raiseGateCount s).menuMap = s.menuMap ∧ (raiseGateCount s).loft = s.loft ∧
    (raiseGateCount s).tracker = s.tracker ∧ (raiseGateCount s).echo = s.echo ∧
    (raiseGateCount s).reports = s.reports ∧ (raiseGateCount s).passage = s.passage ∧
    (raiseGateCount s).handed = s.handed ∧ (raiseGateCount s).moment = s.moment ∧
    (raiseGateCount s).choices = s.choices ∧ (raiseGateCount s).pending = s.pending := by
  unfold raiseGateCount
  try dsimp only
  (repeat' apply And.intro) <;> (repeat' split) <;> simp

@[simp] theorem closeByLength_frame (s : State) :
    (closeByLength s).time = s.time ∧ (closeByLength s).pins = s.pins ∧ (closeByLength s).store = s.store ∧
    (closeByLength s).follower = s.follower ∧ (closeByLength s).pass = s.pass ∧
    (closeByLength s).segments = s.segments ∧ (closeByLength s).pen = s.pen ∧
    (closeByLength s).menuMap = s.menuMap ∧ (closeByLength s).loft = s.loft ∧
    (closeByLength s).tracker = s.tracker ∧ (closeByLength s).passage = s.passage ∧
    (closeByLength s).handed = s.handed ∧ (closeByLength s).choices = s.choices ∧
    (closeByLength s).pending = s.pending := by
  unfold closeByLength
  try dsimp only
  (repeat' apply And.intro) <;> (repeat' split) <;> simp

@[simp] theorem dwellReport_frame (s : State) :
    (dwellReport s).time = s.time ∧ (dwellReport s).pins = s.pins ∧ (dwellReport s).store = s.store ∧
    (dwellReport s).follower = s.follower ∧ (dwellReport s).pass = s.pass ∧
    (dwellReport s).segments = s.segments ∧ (dwellReport s).pen = s.pen ∧ (dwellReport s).menuMap = s.menuMap ∧
    (dwellReport s).loft = s.loft ∧ (dwellReport s).tracker = s.tracker ∧ (dwellReport s).passage = s.passage ∧
    (dwellReport s).handed = s.handed ∧ (dwellReport s).choices = s.choices ∧
    (dwellReport s).pending = s.pending := by
  unfold dwellReport
  try dsimp only
  (repeat' apply And.intro) <;> (repeat' split) <;> simp

@[simp] theorem dwellFrameEnd_frame (s : State) :
    (dwellFrameEnd s).time = s.time ∧ (dwellFrameEnd s).pins = s.pins ∧ (dwellFrameEnd s).store = s.store ∧
    (dwellFrameEnd s).follower = s.follower ∧ (dwellFrameEnd s).pass = s.pass ∧
    (dwellFrameEnd s).segments = s.segments ∧ (dwellFrameEnd s).pen = s.pen ∧
    (dwellFrameEnd s).menuMap = s.menuMap ∧ (dwellFrameEnd s).loft = s.loft ∧
    (dwellFrameEnd s).tracker = s.tracker ∧ (dwellFrameEnd s).passage = s.passage ∧
    (dwellFrameEnd s).handed = s.handed ∧ (dwellFrameEnd s).choices = s.choices ∧
    (dwellFrameEnd s).pending = s.pending := by
  unfold dwellFrameEnd
  try dsimp only
  (repeat' apply And.intro) <;> (repeat' split) <;> simp

@[simp] theorem hoverFrameEnd_frame (s : State) :
    (hoverFrameEnd s).time = s.time ∧ (hoverFrameEnd s).pins = s.pins ∧ (hoverFrameEnd s).store = s.store ∧
    (hoverFrameEnd s).follower = s.follower ∧ (hoverFrameEnd s).pass = s.pass ∧
    (hoverFrameEnd s).segments = s.segments ∧ (hoverFrameEnd s).pen = s.pen ∧
    (hoverFrameEnd s).menuMap = s.menuMap ∧ (hoverFrameEnd s).loft = s.loft ∧
    (hoverFrameEnd s).tracker = s.tracker ∧ (hoverFrameEnd s).echo = s.echo ∧
    (hoverFrameEnd s).reports = s.reports ∧ (hoverFrameEnd s).passage = s.passage ∧
    (hoverFrameEnd s).handed = s.handed ∧ (hoverFrameEnd s).moment = s.moment ∧
    (hoverFrameEnd s).choices = s.choices ∧ (hoverFrameEnd s).pending = s.pending := by
  unfold hoverFrameEnd
  try dsimp only
  (repeat' apply And.intro) <;> simp

@[simp] theorem applyGateShadow_frame (s : State) :
    (applyGateShadow s).time = s.time ∧ (applyGateShadow s).pins = s.pins ∧
    (applyGateShadow s).store = s.store ∧ (applyGateShadow s).follower = s.follower ∧
    (applyGateShadow s).pass = s.pass ∧ (applyGateShadow s).segments = s.segments ∧
    (applyGateShadow s).pen = s.pen ∧ (applyGateShadow s).menuMap = s.menuMap ∧
    (applyGateShadow s).loft = s.loft ∧ (applyGateShadow s).tracker = s.tracker ∧
    (applyGateShadow s).echo = s.echo ∧ (applyGateShadow s).reports = s.reports ∧
    (applyGateShadow s).passage = s.passage ∧ (applyGateShadow s).handed = s.handed ∧
    (applyGateShadow s).moment = s.moment ∧ (applyGateShadow s).choices = s.choices ∧
    (applyGateShadow s).pending = s.pending := by
  unfold applyGateShadow
  try dsimp only
  (repeat' apply And.intro) <;> (repeat' split) <;> simp

@[simp] theorem gateFrameEnd_frame (s : State) :
    (gateFrameEnd s).time = s.time ∧ (gateFrameEnd s).pins = s.pins ∧ (gateFrameEnd s).store = s.store ∧
    (gateFrameEnd s).follower = s.follower ∧ (gateFrameEnd s).pass = s.pass ∧
    (gateFrameEnd s).segments = s.segments ∧ (gateFrameEnd s).pen = s.pen ∧
    (gateFrameEnd s).menuMap = s.menuMap ∧ (gateFrameEnd s).loft = s.loft ∧
    (gateFrameEnd s).tracker = s.tracker ∧ (gateFrameEnd s).passage = s.passage ∧
    (gateFrameEnd s).handed = s.handed ∧ (gateFrameEnd s).choices = s.choices ∧
    (gateFrameEnd s).pending = s.pending := by
  unfold gateFrameEnd
  try dsimp only
  (repeat' apply And.intro) <;> simp

@[simp] theorem gateInvalidated_frame (a : Addr) (s : State) :
    (gateInvalidated a s).time = s.time ∧ (gateInvalidated a s).pins = s.pins ∧
    (gateInvalidated a s).store = s.store ∧ (gateInvalidated a s).follower = s.follower ∧
    (gateInvalidated a s).pass = s.pass ∧ (gateInvalidated a s).segments = s.segments ∧
    (gateInvalidated a s).pen = s.pen ∧ (gateInvalidated a s).menuMap = s.menuMap ∧
    (gateInvalidated a s).loft = s.loft ∧ (gateInvalidated a s).tracker = s.tracker ∧
    (gateInvalidated a s).echo = s.echo ∧ (gateInvalidated a s).reports = s.reports ∧
    (gateInvalidated a s).passage = s.passage ∧ (gateInvalidated a s).handed = s.handed ∧
    (gateInvalidated a s).moment = s.moment ∧ (gateInvalidated a s).choices = s.choices ∧
    (gateInvalidated a s).pending = s.pending := by
  unfold gateInvalidated
  try dsimp only
  (repeat' apply And.intro) <;> simp

@[simp] theorem gateMerge_frame (c : GateSettings) (s : State) :
    (gateMerge c s).time = s.time ∧ (gateMerge c s).pins = s.pins ∧ (gateMerge c s).store = s.store ∧
    (gateMerge c s).follower = s.follower ∧ (gateMerge c s).pass = s.pass ∧
    (gateMerge c s).segments = s.segments ∧ (gateMerge c s).pen = s.pen ∧ (gateMerge c s).menuMap = s.menuMap ∧
    (gateMerge c s).loft = s.loft ∧ (gateMerge c s).tracker = s.tracker ∧ (gateMerge c s).echo = s.echo ∧
    (gateMerge c s).reports = s.reports ∧ (gateMerge c s).passage = s.passage ∧
    (gateMerge c s).handed = s.handed ∧ (gateMerge c s).moment = s.moment ∧
    (gateMerge c s).choices = s.choices ∧ (gateMerge c s).pending = s.pending := by
  unfold gateMerge
  try dsimp only
  (repeat' apply And.intro) <;> simp

@[simp] theorem trackMove_frame (a : Addr) (w : Word) (n : Name) (s : State) :
    (trackMove a w n s).time = s.time ∧ (trackMove a w n s).pins = s.pins ∧
    (trackMove a w n s).store = s.store ∧ (trackMove a w n s).follower = s.follower ∧
    (trackMove a w n s).pass = s.pass ∧ (trackMove a w n s).segments = s.segments ∧
    (trackMove a w n s).pen = s.pen ∧ (trackMove a w n s).menuMap = s.menuMap ∧
    (trackMove a w n s).gate = s.gate ∧ (trackMove a w n s).loft = s.loft ∧ (trackMove a w n s).echo = s.echo ∧
    (trackMove a w n s).reports = s.reports ∧ (trackMove a w n s).passage = s.passage ∧
    (trackMove a w n s).handed = s.handed ∧ (trackMove a w n s).moment = s.moment ∧
    (trackMove a w n s).choices = s.choices ∧ (trackMove a w n s).pending = s.pending := by
  unfold trackMove
  try dsimp only
  (repeat' apply And.intro) <;> (repeat' split) <;> simp

@[simp] theorem trackNotice_frame (a : Addr) (s : State) :
    (trackNotice a s).time = s.time ∧ (trackNotice a s).pins = s.pins ∧ (trackNotice a s).store = s.store ∧
    (trackNotice a s).follower = s.follower ∧ (trackNotice a s).pass = s.pass ∧
    (trackNotice a s).segments = s.segments ∧ (trackNotice a s).pen = s.pen ∧
    (trackNotice a s).menuMap = s.menuMap ∧ (trackNotice a s).gate = s.gate ∧ (trackNotice a s).loft = s.loft ∧
    (trackNotice a s).echo = s.echo ∧ (trackNotice a s).reports = s.reports ∧
    (trackNotice a s).handed = s.handed ∧ (trackNotice a s).moment = s.moment ∧
    (trackNotice a s).choices = s.choices ∧ (trackNotice a s).pending = s.pending := by
  unfold trackNotice
  try dsimp only
  (repeat' apply And.intro) <;> (repeat' split) <;> simp

@[simp] theorem requestTrack_frame (b : Bool) (v : ViewSettings) (s : State) :
    (requestTrack b v s).time = s.time ∧ (requestTrack b v s).pins = s.pins ∧
    (requestTrack b v s).store = s.store ∧ (requestTrack b v s).follower = s.follower ∧
    (requestTrack b v s).pass = s.pass ∧ (requestTrack b v s).segments = s.segments ∧
    (requestTrack b v s).pen = s.pen ∧ (requestTrack b v s).menuMap = s.menuMap ∧
    (requestTrack b v s).gate = s.gate ∧ (requestTrack b v s).loft = s.loft ∧
    (requestTrack b v s).echo = s.echo ∧ (requestTrack b v s).passage = s.passage ∧
    (requestTrack b v s).handed = s.handed ∧ (requestTrack b v s).choices = s.choices ∧
    (requestTrack b v s).pending = s.pending := by
  unfold requestTrack
  try dsimp only
  (repeat' apply And.intro) <;> simp

@[simp] theorem trackSighting_frame (s : State) :
    (trackSighting s).time = s.time ∧ (trackSighting s).pins = s.pins ∧ (trackSighting s).store = s.store ∧
    (trackSighting s).follower = s.follower ∧ (trackSighting s).pass = s.pass ∧
    (trackSighting s).segments = s.segments ∧ (trackSighting s).pen = s.pen ∧
    (trackSighting s).menuMap = s.menuMap ∧ (trackSighting s).gate = s.gate ∧ (trackSighting s).loft = s.loft ∧
    (trackSighting s).echo = s.echo ∧ (trackSighting s).reports = s.reports ∧
    (trackSighting s).passage = s.passage ∧ (trackSighting s).handed = s.handed ∧
    (trackSighting s).moment = s.moment ∧ (trackSighting s).choices = s.choices ∧
    (trackSighting s).pending = s.pending := by
  unfold trackSighting
  try dsimp only
  (repeat' apply And.intro) <;> (repeat' split) <;> simp

@[simp] theorem beginRun_frame (p : Coord × Coord) (s : State) :
    (beginRun p s).time = s.time ∧ (beginRun p s).pins = s.pins ∧ (beginRun p s).store = s.store ∧
    (beginRun p s).follower = s.follower ∧ (beginRun p s).pass = s.pass ∧ (beginRun p s).segments = s.segments ∧
    (beginRun p s).pen = s.pen ∧ (beginRun p s).menuMap = s.menuMap ∧ (beginRun p s).gate = s.gate ∧
    (beginRun p s).loft = s.loft ∧ (beginRun p s).echo = s.echo ∧ (beginRun p s).reports = s.reports ∧
    (beginRun p s).passage = s.passage ∧ (beginRun p s).handed = s.handed ∧ (beginRun p s).moment = s.moment ∧
    (beginRun p s).choices = s.choices ∧ (beginRun p s).pending = s.pending := by
  unfold beginRun
  try dsimp only
  (repeat' apply And.intro) <;> simp

@[simp] theorem trackCross_frame (x y : Coord) (s : State) :
    (trackCross x y s).time = s.time ∧ (trackCross x y s).pins = s.pins ∧ (trackCross x y s).store = s.store ∧
    (trackCross x y s).follower = s.follower ∧ (trackCross x y s).pass = s.pass ∧
    (trackCross x y s).segments = s.segments ∧ (trackCross x y s).pen = s.pen ∧
    (trackCross x y s).menuMap = s.menuMap ∧ (trackCross x y s).gate = s.gate ∧
    (trackCross x y s).loft = s.loft ∧ (trackCross x y s).echo = s.echo ∧
    (trackCross x y s).passage = s.passage ∧ (trackCross x y s).handed = s.handed ∧
    (trackCross x y s).choices = s.choices ∧ (trackCross x y s).pending = s.pending := by
  unfold trackCross
  try dsimp only
  (repeat' apply And.intro) <;> (repeat' split) <;> simp

@[simp] theorem requestWriteBack_frame (a : Addr) (w : Word) (s : State) :
    (requestWriteBack a w s).time = s.time ∧ (requestWriteBack a w s).pins = s.pins ∧
    (requestWriteBack a w s).store = s.store ∧ (requestWriteBack a w s).follower = s.follower ∧
    (requestWriteBack a w s).pass = s.pass ∧ (requestWriteBack a w s).segments = s.segments ∧
    (requestWriteBack a w s).pen = s.pen ∧ (requestWriteBack a w s).menuMap = s.menuMap ∧
    (requestWriteBack a w s).gate = s.gate ∧ (requestWriteBack a w s).loft = s.loft ∧
    (requestWriteBack a w s).echo = s.echo ∧ (requestWriteBack a w s).reports = s.reports ∧
    (requestWriteBack a w s).handed = s.handed ∧ (requestWriteBack a w s).moment = s.moment ∧
    (requestWriteBack a w s).choices = s.choices ∧ (requestWriteBack a w s).pending = s.pending := by
  unfold requestWriteBack
  try dsimp only
  (repeat' apply And.intro) <;> (repeat' split) <;> simp

@[simp] theorem offerWriteBack_frame (s : State) :
    (offerWriteBack s).time = s.time ∧ (offerWriteBack s).pins = s.pins ∧ (offerWriteBack s).store = s.store ∧
    (offerWriteBack s).follower = s.follower ∧ (offerWriteBack s).pass = s.pass ∧
    (offerWriteBack s).segments = s.segments ∧ (offerWriteBack s).pen = s.pen ∧
    (offerWriteBack s).menuMap = s.menuMap ∧ (offerWriteBack s).gate = s.gate ∧
    (offerWriteBack s).loft = s.loft ∧ (offerWriteBack s).echo = s.echo ∧
    (offerWriteBack s).reports = s.reports ∧ (offerWriteBack s).handed = s.handed ∧
    (offerWriteBack s).moment = s.moment ∧ (offerWriteBack s).choices = s.choices ∧
    (offerWriteBack s).pending = s.pending := by
  unfold offerWriteBack
  try dsimp only
  (repeat' apply And.intro) <;> (repeat' split) <;> simp

@[simp] theorem endRun_frame (r : EndReason) (s : State) :
    (endRun r s).time = s.time ∧ (endRun r s).pins = s.pins ∧ (endRun r s).store = s.store ∧
    (endRun r s).follower = s.follower ∧ (endRun r s).pass = s.pass ∧ (endRun r s).segments = s.segments ∧
    (endRun r s).pen = s.pen ∧ (endRun r s).menuMap = s.menuMap ∧ (endRun r s).gate = s.gate ∧
    (endRun r s).loft = s.loft ∧ (endRun r s).echo = s.echo ∧ (endRun r s).handed = s.handed ∧
    (endRun r s).choices = s.choices ∧ (endRun r s).pending = s.pending := by
  unfold endRun
  try dsimp only
  (repeat' apply And.intro) <;> (repeat' split) <;> simp

@[simp] theorem writeBackAnswered_frame (s : State) :
    (writeBackAnswered s).time = s.time ∧ (writeBackAnswered s).pins = s.pins ∧
    (writeBackAnswered s).store = s.store ∧ (writeBackAnswered s).follower = s.follower ∧
    (writeBackAnswered s).pass = s.pass ∧ (writeBackAnswered s).segments = s.segments ∧
    (writeBackAnswered s).pen = s.pen ∧ (writeBackAnswered s).menuMap = s.menuMap ∧
    (writeBackAnswered s).gate = s.gate ∧ (writeBackAnswered s).loft = s.loft ∧
    (writeBackAnswered s).echo = s.echo ∧ (writeBackAnswered s).reports = s.reports ∧
    (writeBackAnswered s).passage = s.passage ∧ (writeBackAnswered s).handed = s.handed ∧
    (writeBackAnswered s).moment = s.moment ∧ (writeBackAnswered s).choices = s.choices ∧
    (writeBackAnswered s).pending = s.pending := by
  unfold writeBackAnswered
  try dsimp only
  (repeat' apply And.intro) <;> (repeat' split) <;> simp

@[simp] theorem countLoss_frame (s : State) :
    (countLoss s).time = s.time ∧ (countLoss s).pins = s.pins ∧ (countLoss s).store = s.store ∧
    (countLoss s).follower = s.follower ∧ (countLoss s).pass = s.pass ∧ (countLoss s).segments = s.segments ∧
    (countLoss s).pen = s.pen ∧ (countLoss s).menuMap = s.menuMap ∧ (countLoss s).gate = s.gate ∧
    (countLoss s).loft = s.loft ∧ (countLoss s).echo = s.echo ∧ (countLoss s).reports = s.reports ∧
    (countLoss s).passage = s.passage ∧ (countLoss s).handed = s.handed ∧ (countLoss s).moment = s.moment ∧
    (countLoss s).choices = s.choices ∧ (countLoss s).pending = s.pending := by
  unfold countLoss
  try dsimp only
  (repeat' apply And.intro) <;> (repeat' split) <;> simp

@[simp] theorem goLost_frame (v : ViewSettings) (s : State) :
    (goLost v s).time = s.time ∧ (goLost v s).pins = s.pins ∧ (goLost v s).store = s.store ∧
    (goLost v s).follower = s.follower ∧ (goLost v s).pass = s.pass ∧ (goLost v s).segments = s.segments ∧
    (goLost v s).pen = s.pen ∧ (goLost v s).menuMap = s.menuMap ∧ (goLost v s).gate = s.gate ∧
    (goLost v s).loft = s.loft ∧ (goLost v s).echo = s.echo ∧ (goLost v s).passage = s.passage ∧
    (goLost v s).handed = s.handed ∧ (goLost v s).choices = s.choices ∧ (goLost v s).pending = s.pending := by
  unfold goLost
  try dsimp only
  (repeat' apply And.intro) <;> (repeat' split) <;> simp

@[simp] theorem frameTrack_frame (v : ViewSettings) (s : State) :
    (frameTrack v s).time = s.time ∧ (frameTrack v s).pins = s.pins ∧ (frameTrack v s).store = s.store ∧
    (frameTrack v s).follower = s.follower ∧ (frameTrack v s).pass = s.pass ∧
    (frameTrack v s).segments = s.segments ∧ (frameTrack v s).pen = s.pen ∧
    (frameTrack v s).menuMap = s.menuMap ∧ (frameTrack v s).gate = s.gate ∧ (frameTrack v s).loft = s.loft ∧
    (frameTrack v s).echo = s.echo ∧ (frameTrack v s).passage = s.passage ∧ (frameTrack v s).handed = s.handed ∧
    (frameTrack v s).choices = s.choices ∧ (frameTrack v s).pending = s.pending := by
  unfold frameTrack
  try dsimp only
  (repeat' apply And.intro) <;> (repeat' split) <;> simp

@[simp] theorem trackFrameEnd_frame (v : ViewSettings) (s : State) :
    (trackFrameEnd v s).time = s.time ∧ (trackFrameEnd v s).pins = s.pins ∧
    (trackFrameEnd v s).store = s.store ∧ (trackFrameEnd v s).follower = s.follower ∧
    (trackFrameEnd v s).pass = s.pass ∧ (trackFrameEnd v s).segments = s.segments ∧
    (trackFrameEnd v s).pen = s.pen ∧ (trackFrameEnd v s).menuMap = s.menuMap ∧
    (trackFrameEnd v s).gate = s.gate ∧ (trackFrameEnd v s).loft = s.loft ∧ (trackFrameEnd v s).echo = s.echo ∧
    (trackFrameEnd v s).passage = s.passage ∧ (trackFrameEnd v s).handed = s.handed ∧
    (trackFrameEnd v s).choices = s.choices ∧ (trackFrameEnd v s).pending = s.pending := by
  unfold trackFrameEnd
  try dsimp only
  (repeat' apply And.intro) <;> simp

@[simp] theorem trackMerge_frame (c : TrackSettings) (s : State) :
    (trackMerge c s).time = s.time ∧ (trackMerge c s).pins = s.pins ∧ (trackMerge c s).store = s.store ∧
    (trackMerge c s).follower = s.follower ∧ (trackMerge c s).pass = s.pass ∧
    (trackMerge c s).segments = s.segments ∧ (trackMerge c s).pen = s.pen ∧
    (trackMerge c s).menuMap = s.menuMap ∧ (trackMerge c s).gate = s.gate ∧ (trackMerge c s).loft = s.loft ∧
    (trackMerge c s).echo = s.echo ∧ (trackMerge c s).reports = s.reports ∧
    (trackMerge c s).passage = s.passage ∧ (trackMerge c s).handed = s.handed ∧
    (trackMerge c s).moment = s.moment ∧ (trackMerge c s).choices = s.choices ∧
    (trackMerge c s).pending = s.pending := by
  unfold trackMerge
  try dsimp only
  (repeat' apply And.intro) <;> simp

@[simp] theorem loftFrameEnd_frame (s : State) :
    (loftFrameEnd s).time = s.time ∧ (loftFrameEnd s).pins = s.pins ∧ (loftFrameEnd s).store = s.store ∧
    (loftFrameEnd s).follower = s.follower ∧ (loftFrameEnd s).pass = s.pass ∧
    (loftFrameEnd s).segments = s.segments ∧ (loftFrameEnd s).pen = s.pen ∧
    (loftFrameEnd s).menuMap = s.menuMap ∧ (loftFrameEnd s).gate = s.gate ∧
    (loftFrameEnd s).tracker = s.tracker ∧ (loftFrameEnd s).echo = s.echo ∧
    (loftFrameEnd s).reports = s.reports ∧ (loftFrameEnd s).passage = s.passage ∧
    (loftFrameEnd s).handed = s.handed ∧ (loftFrameEnd s).moment = s.moment ∧
    (loftFrameEnd s).choices = s.choices ∧ (loftFrameEnd s).pending = s.pending := by
  unfold loftFrameEnd
  try dsimp only
  (repeat' apply And.intro) <;> simp

@[simp] theorem loftMerge_frame (c : ViewSettings) (s : State) :
    (loftMerge c s).time = s.time ∧ (loftMerge c s).pins = s.pins ∧ (loftMerge c s).store = s.store ∧
    (loftMerge c s).follower = s.follower ∧ (loftMerge c s).pass = s.pass ∧
    (loftMerge c s).segments = s.segments ∧ (loftMerge c s).pen = s.pen ∧ (loftMerge c s).menuMap = s.menuMap ∧
    (loftMerge c s).gate = s.gate ∧ (loftMerge c s).tracker = s.tracker ∧ (loftMerge c s).echo = s.echo ∧
    (loftMerge c s).reports = s.reports ∧ (loftMerge c s).passage = s.passage ∧
    (loftMerge c s).handed = s.handed ∧ (loftMerge c s).moment = s.moment ∧
    (loftMerge c s).choices = s.choices ∧ (loftMerge c s).pending = s.pending := by
  unfold loftMerge
  try dsimp only
  (repeat' apply And.intro) <;> simp

@[simp] theorem refuseProtected_frame (a : Addr) (s : State) :
    (refuseProtected a s).time = s.time ∧ (refuseProtected a s).pins = s.pins ∧
    (refuseProtected a s).store = s.store ∧ (refuseProtected a s).follower = s.follower ∧
    (refuseProtected a s).segments = s.segments ∧ (refuseProtected a s).pen = s.pen ∧
    (refuseProtected a s).menuMap = s.menuMap ∧ (refuseProtected a s).gate = s.gate ∧
    (refuseProtected a s).loft = s.loft ∧ (refuseProtected a s).tracker = s.tracker ∧
    (refuseProtected a s).echo = s.echo ∧ (refuseProtected a s).passage = s.passage ∧
    (refuseProtected a s).handed = s.handed ∧ (refuseProtected a s).choices = s.choices ∧
    (refuseProtected a s).pending = s.pending := by
  unfold refuseProtected
  try dsimp only
  (repeat' apply And.intro) <;> (repeat' split) <;> simp

@[simp] theorem passFrameEnd_frame (s : State) :
    (passFrameEnd s).time = s.time ∧ (passFrameEnd s).pins = s.pins ∧ (passFrameEnd s).store = s.store ∧
    (passFrameEnd s).follower = s.follower ∧ (passFrameEnd s).segments = s.segments ∧
    (passFrameEnd s).pen = s.pen ∧ (passFrameEnd s).menuMap = s.menuMap ∧ (passFrameEnd s).gate = s.gate ∧
    (passFrameEnd s).loft = s.loft ∧ (passFrameEnd s).tracker = s.tracker ∧ (passFrameEnd s).echo = s.echo ∧
    (passFrameEnd s).reports = s.reports ∧ (passFrameEnd s).passage = s.passage ∧
    (passFrameEnd s).handed = s.handed ∧ (passFrameEnd s).moment = s.moment ∧
    (passFrameEnd s).choices = s.choices ∧ (passFrameEnd s).pending = s.pending := by
  unfold passFrameEnd
  try dsimp only
  (repeat' apply And.intro) <;> simp

@[simp] theorem penMerge_frame (c : PenSettings) (s : State) :
    (penMerge c s).time = s.time ∧ (penMerge c s).pins = s.pins ∧ (penMerge c s).store = s.store ∧
    (penMerge c s).follower = s.follower ∧ (penMerge c s).pass = s.pass ∧ (penMerge c s).segments = s.segments ∧
    (penMerge c s).menuMap = s.menuMap ∧ (penMerge c s).gate = s.gate ∧ (penMerge c s).loft = s.loft ∧
    (penMerge c s).tracker = s.tracker ∧ (penMerge c s).echo = s.echo ∧ (penMerge c s).reports = s.reports ∧
    (penMerge c s).passage = s.passage ∧ (penMerge c s).handed = s.handed ∧ (penMerge c s).moment = s.moment ∧
    (penMerge c s).choices = s.choices ∧ (penMerge c s).pending = s.pending := by
  unfold penMerge
  try dsimp only
  (repeat' apply And.intro) <;> simp

@[simp] theorem frameTimeoutMerge_frame (n : Nat) (s : State) :
    (frameTimeoutMerge n s).time = s.time ∧ (frameTimeoutMerge n s).pins = s.pins ∧
    (frameTimeoutMerge n s).store = s.store ∧ (frameTimeoutMerge n s).pass = s.pass ∧
    (frameTimeoutMerge n s).segments = s.segments ∧ (frameTimeoutMerge n s).pen = s.pen ∧
    (frameTimeoutMerge n s).menuMap = s.menuMap ∧ (frameTimeoutMerge n s).gate = s.gate ∧
    (frameTimeoutMerge n s).loft = s.loft ∧ (frameTimeoutMerge n s).tracker = s.tracker ∧
    (frameTimeoutMerge n s).echo = s.echo ∧ (frameTimeoutMerge n s).reports = s.reports ∧
    (frameTimeoutMerge n s).passage = s.passage ∧ (frameTimeoutMerge n s).handed = s.handed ∧
    (frameTimeoutMerge n s).moment = s.moment ∧ (frameTimeoutMerge n s).choices = s.choices ∧
    (frameTimeoutMerge n s).pending = s.pending := by
  unfold frameTimeoutMerge
  try dsimp only
  (repeat' apply And.intro) <;> simp

@[simp] theorem passName_frame (p : BitVec 12) (s : State) :
    (passName p s).time = s.time ∧ (passName p s).pins = s.pins ∧ (passName p s).store = s.store ∧
    (passName p s).follower = s.follower ∧ (passName p s).pass = s.pass ∧ (passName p s).pen = s.pen ∧
    (passName p s).menuMap = s.menuMap ∧ (passName p s).gate = s.gate ∧ (passName p s).loft = s.loft ∧
    (passName p s).tracker = s.tracker ∧ (passName p s).echo = s.echo ∧ (passName p s).reports = s.reports ∧
    (passName p s).passage = s.passage ∧ (passName p s).handed = s.handed ∧ (passName p s).moment = s.moment ∧
    (passName p s).choices = s.choices ∧ (passName p s).pending = s.pending := by
  unfold passName
  try dsimp only
  (repeat' apply And.intro) <;> (repeat' split) <;> simp

@[simp] theorem passSegment_frame (p : BitVec 12) (ws : List Word) (a : Addr) (s : State) :
    (passSegment p ws a s).time = s.time ∧ (passSegment p ws a s).pins = s.pins ∧
    (passSegment p ws a s).store = s.store ∧ (passSegment p ws a s).follower = s.follower ∧
    (passSegment p ws a s).pass = s.pass ∧ (passSegment p ws a s).pen = s.pen ∧
    (passSegment p ws a s).menuMap = s.menuMap ∧ (passSegment p ws a s).gate = s.gate ∧
    (passSegment p ws a s).loft = s.loft ∧ (passSegment p ws a s).tracker = s.tracker ∧
    (passSegment p ws a s).echo = s.echo ∧ (passSegment p ws a s).passage = s.passage ∧
    (passSegment p ws a s).handed = s.handed ∧ (passSegment p ws a s).choices = s.choices ∧
    (passSegment p ws a s).pending = s.pending := by
  unfold passSegment
  try dsimp only
  (repeat' apply And.intro) <;> (repeat' split) <;> simp

@[simp] theorem passReadout_frame (p : BitVec 12) (ws : List Word) (s : State) :
    (passReadout p ws s).time = s.time ∧ (passReadout p ws s).pins = s.pins ∧
    (passReadout p ws s).store = s.store ∧ (passReadout p ws s).follower = s.follower ∧
    (passReadout p ws s).pass = s.pass ∧ (passReadout p ws s).pen = s.pen ∧
    (passReadout p ws s).menuMap = s.menuMap ∧ (passReadout p ws s).gate = s.gate ∧
    (passReadout p ws s).loft = s.loft ∧ (passReadout p ws s).tracker = s.tracker ∧
    (passReadout p ws s).echo = s.echo ∧ (passReadout p ws s).reports = s.reports ∧
    (passReadout p ws s).passage = s.passage ∧ (passReadout p ws s).handed = s.handed ∧
    (passReadout p ws s).moment = s.moment ∧ (passReadout p ws s).choices = s.choices ∧
    (passReadout p ws s).pending = s.pending := by
  unfold passReadout
  try dsimp only
  (repeat' apply And.intro) <;> (repeat' split) <;> simp

@[simp] theorem passView_frame (p : BitVec 12) (ws : List Word) (s : State) :
    (passView p ws s).time = s.time ∧ (passView p ws s).pins = s.pins ∧ (passView p ws s).store = s.store ∧
    (passView p ws s).follower = s.follower ∧ (passView p ws s).pass = s.pass ∧
    (passView p ws s).segments = s.segments ∧ (passView p ws s).pen = s.pen ∧
    (passView p ws s).menuMap = s.menuMap ∧ (passView p ws s).gate = s.gate ∧
    (passView p ws s).tracker = s.tracker ∧ (passView p ws s).echo = s.echo ∧
    (passView p ws s).reports = s.reports ∧ (passView p ws s).passage = s.passage ∧
    (passView p ws s).handed = s.handed ∧ (passView p ws s).moment = s.moment ∧
    (passView p ws s).choices = s.choices ∧ (passView p ws s).pending = s.pending := by
  unfold passView
  try dsimp only
  (repeat' apply And.intro) <;> simp

@[simp] theorem passGrid_frame (ws : List Word) (s : State) :
    (passGrid ws s).time = s.time ∧ (passGrid ws s).pins = s.pins ∧ (passGrid ws s).store = s.store ∧
    (passGrid ws s).follower = s.follower ∧ (passGrid ws s).pass = s.pass ∧
    (passGrid ws s).segments = s.segments ∧ (passGrid ws s).pen = s.pen ∧ (passGrid ws s).menuMap = s.menuMap ∧
    (passGrid ws s).gate = s.gate ∧ (passGrid ws s).tracker = s.tracker ∧ (passGrid ws s).echo = s.echo ∧
    (passGrid ws s).reports = s.reports ∧ (passGrid ws s).passage = s.passage ∧
    (passGrid ws s).handed = s.handed ∧ (passGrid ws s).moment = s.moment ∧
    (passGrid ws s).choices = s.choices ∧ (passGrid ws s).pending = s.pending := by
  unfold passGrid
  try dsimp only
  (repeat' apply And.intro) <;> simp

@[simp] theorem passGate_frame (ws : List Word) (s : State) :
    (passGate ws s).time = s.time ∧ (passGate ws s).pins = s.pins ∧ (passGate ws s).store = s.store ∧
    (passGate ws s).follower = s.follower ∧ (passGate ws s).pass = s.pass ∧
    (passGate ws s).segments = s.segments ∧ (passGate ws s).pen = s.pen ∧ (passGate ws s).menuMap = s.menuMap ∧
    (passGate ws s).loft = s.loft ∧ (passGate ws s).tracker = s.tracker ∧ (passGate ws s).echo = s.echo ∧
    (passGate ws s).reports = s.reports ∧ (passGate ws s).passage = s.passage ∧
    (passGate ws s).handed = s.handed ∧ (passGate ws s).moment = s.moment ∧
    (passGate ws s).choices = s.choices ∧ (passGate ws s).pending = s.pending := by
  unfold passGate
  try dsimp only
  (repeat' apply And.intro) <;> simp

@[simp] theorem passTrack_frame (p : BitVec 12) (ws : List Word) (s : State) :
    (passTrack p ws s).time = s.time ∧ (passTrack p ws s).pins = s.pins ∧ (passTrack p ws s).store = s.store ∧
    (passTrack p ws s).follower = s.follower ∧ (passTrack p ws s).pass = s.pass ∧
    (passTrack p ws s).segments = s.segments ∧ (passTrack p ws s).pen = s.pen ∧
    (passTrack p ws s).menuMap = s.menuMap ∧ (passTrack p ws s).gate = s.gate ∧
    (passTrack p ws s).loft = s.loft ∧ (passTrack p ws s).echo = s.echo ∧
    (passTrack p ws s).reports = s.reports ∧ (passTrack p ws s).passage = s.passage ∧
    (passTrack p ws s).handed = s.handed ∧ (passTrack p ws s).moment = s.moment ∧
    (passTrack p ws s).choices = s.choices ∧ (passTrack p ws s).pending = s.pending := by
  unfold passTrack
  try dsimp only
  (repeat' apply And.intro) <;> simp

@[simp] theorem passRing_frame (ws : List Word) (a : Addr) (s : State) :
    (passRing ws a s).time = s.time ∧ (passRing ws a s).pins = s.pins ∧ (passRing ws a s).store = s.store ∧
    (passRing ws a s).follower = s.follower ∧ (passRing ws a s).pass = s.pass ∧
    (passRing ws a s).segments = s.segments ∧ (passRing ws a s).pen = s.pen ∧
    (passRing ws a s).menuMap = s.menuMap ∧ (passRing ws a s).gate = s.gate ∧ (passRing ws a s).loft = s.loft ∧
    (passRing ws a s).tracker = s.tracker ∧ (passRing ws a s).echo = s.echo ∧
    (passRing ws a s).passage = s.passage ∧ (passRing ws a s).handed = s.handed ∧
    (passRing ws a s).choices = s.choices ∧ (passRing ws a s).pending = s.pending := by
  unfold passRing
  try dsimp only
  (repeat' apply And.intro) <;> (repeat' split) <;> simp

@[simp] theorem passPen_frame (p : BitVec 12) (ws : List Word) (s : State) :
    (passPen p ws s).time = s.time ∧ (passPen p ws s).pins = s.pins ∧ (passPen p ws s).store = s.store ∧
    (passPen p ws s).follower = s.follower ∧ (passPen p ws s).pass = s.pass ∧
    (passPen p ws s).segments = s.segments ∧ (passPen p ws s).menuMap = s.menuMap ∧
    (passPen p ws s).gate = s.gate ∧ (passPen p ws s).loft = s.loft ∧ (passPen p ws s).tracker = s.tracker ∧
    (passPen p ws s).echo = s.echo ∧ (passPen p ws s).reports = s.reports ∧
    (passPen p ws s).passage = s.passage ∧ (passPen p ws s).handed = s.handed ∧
    (passPen p ws s).moment = s.moment ∧ (passPen p ws s).choices = s.choices ∧
    (passPen p ws s).pending = s.pending := by
  unfold passPen
  try dsimp only
  (repeat' apply And.intro) <;> simp

@[simp] theorem passTiming_frame (ws : List Word) (s : State) :
    (passTiming ws s).time = s.time ∧ (passTiming ws s).pins = s.pins ∧ (passTiming ws s).store = s.store ∧
    (passTiming ws s).pass = s.pass ∧ (passTiming ws s).segments = s.segments ∧
    (passTiming ws s).menuMap = s.menuMap ∧ (passTiming ws s).gate = s.gate ∧ (passTiming ws s).loft = s.loft ∧
    (passTiming ws s).tracker = s.tracker ∧ (passTiming ws s).echo = s.echo ∧
    (passTiming ws s).reports = s.reports ∧ (passTiming ws s).passage = s.passage ∧
    (passTiming ws s).handed = s.handed ∧ (passTiming ws s).moment = s.moment ∧
    (passTiming ws s).choices = s.choices ∧ (passTiming ws s).pending = s.pending := by
  unfold passTiming
  try dsimp only
  (repeat' apply And.intro) <;> simp

/-- Everything a command that is accepted can do (R41). -/
theorem commandEffect_cases {p : BitVec 12} {ws : List Word} {a : Addr} {s t : State}
    (h : commandEffect p ws a s = .ok t) :
    (∃ q, startTrackPosition ws s = .ok q ∧ t = beginRun q s) ∨
    (s.tracker.runs = true ∧ t = endRun .command s) ∨ t = closeGate s ∨ t = echoClear s ∨
    (∃ n, (s.segments.find n).isSome = true ∧ t = markDrop n s) ∨ t = markAllDropped s ∨
    t = requestReport (markReport (commandOperand p) a s) s := by
  unfold commandEffect at h
  (repeat' split at h) <;> first | (simp_all; done) | (cases h; exact .inr (.inr (.inr (.inr (.inl ⟨_, ‹_›, rfl⟩)))))

@[simp] theorem actOnCommand_frame (p : BitVec 12) (ws : List Word) (a : Addr) (s : State) :
    (actOnCommand p ws a s).time = s.time ∧ (actOnCommand p ws a s).pins = s.pins ∧
    (actOnCommand p ws a s).store = s.store ∧ (actOnCommand p ws a s).follower = s.follower ∧
    (actOnCommand p ws a s).pass = s.pass ∧ (actOnCommand p ws a s).pen = s.pen ∧
    (actOnCommand p ws a s).menuMap = s.menuMap ∧ (actOnCommand p ws a s).loft = s.loft ∧
    (actOnCommand p ws a s).handed = s.handed ∧ (actOnCommand p ws a s).choices = s.choices ∧
    (actOnCommand p ws a s).pending = s.pending := by
  unfold actOnCommand
  split
  · rename_i t h
    rcases commandEffect_cases h with ⟨q, _, rfl⟩ | ⟨_, rfl⟩ | rfl | rfl | ⟨n, _, rfl⟩ | rfl | rfl <;> simp
  · simp

@[simp] theorem listCommand_frame (a : Addr) (e : Nat) (s : State) :
    (listCommand a e s).time = s.time ∧ (listCommand a e s).pins = s.pins ∧
    (listCommand a e s).store = s.store ∧ (listCommand a e s).follower = s.follower ∧
    (listCommand a e s).segments = s.segments ∧ (listCommand a e s).pen = s.pen ∧
    (listCommand a e s).menuMap = s.menuMap ∧ (listCommand a e s).gate = s.gate ∧
    (listCommand a e s).loft = s.loft ∧ (listCommand a e s).tracker = s.tracker ∧
    (listCommand a e s).echo = s.echo ∧ (listCommand a e s).reports = s.reports ∧
    (listCommand a e s).passage = s.passage ∧ (listCommand a e s).handed = s.handed ∧
    (listCommand a e s).moment = s.moment ∧ (listCommand a e s).choices = s.choices ∧
    (listCommand a e s).pending = s.pending := by
  unfold listCommand
  try dsimp only
  (repeat' apply And.intro) <;> simp

@[simp] theorem passCommand_frame (p : BitVec 12) (e : Nat) (ws : List Word) (a : Addr) (s : State) :
    (passCommand p e ws a s).time = s.time ∧ (passCommand p e ws a s).pins = s.pins ∧
    (passCommand p e ws a s).store = s.store ∧ (passCommand p e ws a s).follower = s.follower ∧
    (passCommand p e ws a s).pen = s.pen ∧ (passCommand p e ws a s).menuMap = s.menuMap ∧
    (passCommand p e ws a s).loft = s.loft ∧ (passCommand p e ws a s).handed = s.handed ∧
    (passCommand p e ws a s).choices = s.choices ∧ (passCommand p e ws a s).pending = s.pending := by
  unfold passCommand
  try dsimp only
  (repeat' apply And.intro) <;> (repeat' split) <;> simp

@[simp] theorem passOpen_frame (t : Nat) (p : BitVec 12) (e : Nat) (ws : List Word) (a : Addr) (s : State) :
    (passOpen t p e ws a s).time = s.time ∧ (passOpen t p e ws a s).pins = s.pins ∧
    (passOpen t p e ws a s).store = s.store ∧ (passOpen t p e ws a s).follower = s.follower ∧
    (passOpen t p e ws a s).pen = s.pen ∧ (passOpen t p e ws a s).menuMap = s.menuMap ∧
    (passOpen t p e ws a s).handed = s.handed ∧ (passOpen t p e ws a s).choices = s.choices ∧
    (passOpen t p e ws a s).pending = s.pending := by
  unfold passOpen
  try dsimp only
  (repeat' apply And.intro) <;> (repeat' split) <;> simp

@[simp] theorem passSystem_frame (t : Nat) (p : BitVec 12) (ws : List Word) (a : Addr) (s : State) :
    (passSystem t p ws a s).time = s.time ∧ (passSystem t p ws a s).pins = s.pins ∧
    (passSystem t p ws a s).store = s.store ∧ (passSystem t p ws a s).pass = s.pass ∧
    (passSystem t p ws a s).segments = s.segments ∧ (passSystem t p ws a s).menuMap = s.menuMap ∧
    (passSystem t p ws a s).gate = s.gate ∧ (passSystem t p ws a s).loft = s.loft ∧
    (passSystem t p ws a s).tracker = s.tracker ∧ (passSystem t p ws a s).echo = s.echo ∧
    (passSystem t p ws a s).passage = s.passage ∧ (passSystem t p ws a s).handed = s.handed ∧
    (passSystem t p ws a s).choices = s.choices ∧ (passSystem t p ws a s).pending = s.pending := by
  unfold passSystem
  try dsimp only
  (repeat' apply And.intro) <;> (repeat' split) <;> simp

@[simp] theorem handOff_frame (a : Addr) (e t : Nat) (p : BitVec 12) (ws : List Word) (s : State) :
    (handOff a e t p ws s).time = s.time ∧ (handOff a e t p ws s).pins = s.pins ∧
    (handOff a e t p ws s).store = s.store ∧ (handOff a e t p ws s).menuMap = s.menuMap ∧
    (handOff a e t p ws s).handed = s.handed ∧ (handOff a e t p ws s).choices = s.choices ∧
    (handOff a e t p ws s).pending = s.pending := by
  unfold handOff
  try dsimp only
  (repeat' apply And.intro) <;> (repeat' split) <;> simp

@[simp] theorem passNotice_frame (a : Addr) (s : State) :
    (passNotice a s).time = s.time ∧ (passNotice a s).pins = s.pins ∧ (passNotice a s).store = s.store ∧
    (passNotice a s).follower = s.follower ∧ (passNotice a s).segments = s.segments ∧
    (passNotice a s).pen = s.pen ∧ (passNotice a s).menuMap = s.menuMap ∧ (passNotice a s).gate = s.gate ∧
    (passNotice a s).loft = s.loft ∧ (passNotice a s).tracker = s.tracker ∧ (passNotice a s).echo = s.echo ∧
    (passNotice a s).reports = s.reports ∧ (passNotice a s).handed = s.handed ∧
    (passNotice a s).moment = s.moment ∧ (passNotice a s).choices = s.choices ∧
    (passNotice a s).pending = s.pending := by
  unfold passNotice
  try dsimp only
  (repeat' apply And.intro) <;> (repeat' split) <;> simp

@[simp] theorem consumptionAnswered_frame (a : Addr) (s : State) :
    (consumptionAnswered a s).time = s.time ∧ (consumptionAnswered a s).pins = s.pins ∧
    (consumptionAnswered a s).store = s.store ∧ (consumptionAnswered a s).follower = s.follower ∧
    (consumptionAnswered a s).segments = s.segments ∧ (consumptionAnswered a s).pen = s.pen ∧
    (consumptionAnswered a s).menuMap = s.menuMap ∧ (consumptionAnswered a s).gate = s.gate ∧
    (consumptionAnswered a s).loft = s.loft ∧ (consumptionAnswered a s).tracker = s.tracker ∧
    (consumptionAnswered a s).echo = s.echo ∧ (consumptionAnswered a s).reports = s.reports ∧
    (consumptionAnswered a s).passage = s.passage ∧ (consumptionAnswered a s).handed = s.handed ∧
    (consumptionAnswered a s).moment = s.moment ∧ (consumptionAnswered a s).choices = s.choices ∧
    (consumptionAnswered a s).pending = s.pending := by
  unfold consumptionAnswered
  try dsimp only
  (repeat' apply And.intro) <;> simp

end Sys2Proof.Machine
end

