-- ==== Sys2Proof/Laws/Ops.lean ====
section
/-! SUPPORT. The shared operations: free orders, taking what waits, clamps, shadows and the decoded fields. -/

namespace Sys2Proof.Machine

/-! ### Free orders -/

theorem insertAt_perm {α : Type} (x : α) (n : Nat) (l : List α) : (insertAt x n l).Perm (x :: l) := by
  induction n generalizing l with
  | zero => exact .refl _
  | succ n ih =>
    cases l with
    | nil => exact .refl _
    | cons y l => exact ((ih l).cons y).trans (.swap x y l)

/-- A free order holds the same elements, each as often. -/
theorem permute_perm {α : Type} (c : Nat) (l : List α) : (permute c l).Perm l := by
  induction l generalizing c with
  | nil => exact .refl _
  | cons x l ih => exact (insertAt_perm x _ _).trans ((ih _).cons x)

/-- An order of two: one or the other. -/
theorem permute_two {α : Type} (c : Nat) (x y : α) : permute c [x, y] = [x, y] ∨ permute c [x, y] = [y, x] := by
  rcases Nat.mod_two_eq_zero_or_one c with h | h <;> simp [permute, h, insertAt, Nat.mod_one]

@[simp] theorem permute_one {α : Type} (c : Nat) (x : α) : permute c [x] = [x] := by
  simp [permute, insertAt, Nat.mod_one]

/-! ### What waits to be taken -/

theorem takeOldest_keeps {P : State → Prop} {α : Type} {react : α → State → State}
    (hr : ∀ x {s}, P s → P (react x s)) (n : Nat) (q : List α) {s : State} (h : P s) :
    P (takeOldest n q react s) := by
  unfold takeOldest
  generalize q.take n = l
  induction l generalizing s with
  | nil => exact h
  | cons x l ih => exact ih (hr x h)

/-- A free number of what waits is some number of it, with a choice drawn where anything waits. -/
theorem takeSome_spec (length : Nat) (take : Nat → State → State) (s : State) :
    (length = 0 ∧ takeSome length take s = s) ∨
    ∃ n ≤ length, takeSome length take s = take n (afterDraw s) := by
  unfold takeSome
  split_ifs with h
  · exact .inl ⟨h, rfl⟩
  · exact .inr ⟨_, Nat.lt_succ_iff.mp (Nat.mod_lt _ (Nat.succ_pos _)), rfl⟩

theorem takeSome_keeps {P : State → Prop} {take : Nat → State → State} (hd : ∀ {s}, P s → P (afterDraw s))
    (ht : ∀ {s} n, P s → P (take n s)) (length : Nat) {s : State} (h : P s) : P (takeSome length take s) := by
  unfold takeSome
  split_ifs
  · exact h
  · exact ht _ (hd h)

/-! ### Clamps (R32) -/

theorem clampNat_le {lo hi v : Nat} (h : lo ≤ hi) : clampNat lo hi v ≤ hi := by
  unfold clampNat; omega

theorem le_clampNat {lo hi v : Nat} : lo ≤ clampNat lo hi v := by
  unfold clampNat; omega

theorem clampNat_of_mem {lo hi v : Nat} (h₁ : lo ≤ v) (h₂ : v ≤ hi) : clampNat lo hi v = v := by
  unfold clampNat; omega

theorem clampInt_le {lo hi v : Int} (h : lo ≤ hi) : clampInt lo hi v ≤ hi := by
  unfold clampInt; omega

theorem le_clampInt {lo hi v : Int} : lo ≤ clampInt lo hi v := by
  unfold clampInt; omega

/-- A coordinate clamped between an ordered pair lies between them, and is `v` where `v` does. -/
theorem clampCoord_spec {lo hi : Coord} (v : Int) (h : lo.toNat ≤ hi.toNat) :
    lo.toNat ≤ (clampCoord lo hi v).toNat ∧ (clampCoord lo hi v).toNat ≤ hi.toNat ∧
    ((lo.toNat : Int) ≤ v → v ≤ hi.toNat → ((clampCoord lo hi v).toNat : Int) = v) := by
  have := hi.isLt
  unfold clampCoord
  split_ifs with h₁ h₂
  · omega
  · omega
  · rw [BitVec.toNat_ofNat, Nat.mod_eq_of_lt (by omega)]
    omega

/-! ### Shadows (R36) -/

/-- R36, steps 2 and 3: a candidate set is what the present value of a group becomes. -/
@[simp] theorem presentValue_shadowOf {α : Type} [DecidableEq α] (active candidate : α) :
    presentValue active (shadowOf active candidate) = candidate := by
  unfold presentValue shadowOf
  split_ifs with h <;> simp [h]

theorem shadowOf_eq_some {α : Type} [DecidableEq α] {active candidate x : α}
    (h : shadowOf active candidate = some x) : x = candidate := by
  unfold shadowOf at h
  split_ifs at h
  exact (Option.some.inj h).symm

/-- A present value has what both the active value and a pending shadow have. -/
theorem presentValue_of {α : Type} {p : α → Prop} {active : α} {shadow : Option α} (h : p active)
    (hs : ∀ x, shadow = some x → p x) : p (presentValue active shadow) := by
  cases shadow with
  | none => exact h
  | some x => exact hs x rfl

/-! ### Decoded fields (12.1) -/

theorem decodeOrder_text {w : Word} {size : BitVec 2} {n : Nat} (h : decodeOrder w = .text size n) :
    n ≤ 255 := by
  unfold decodeOrder at h
  split at h <;> simp at h
  have := (bitsAt w 0 8).isLt
  omega

theorem decodeOrder_pass {w : Word} {e t : Nat} {p : BitVec 12} (h : decodeOrder w = .pass e t p) :
    e ≤ 7 ∧ t ≤ 31 := by
  unfold decodeOrder at h
  split at h <;> simp at h
  have := (bitsAt w 17 3).isLt
  have := (bitsAt w 12 5).isLt
  omega

/-- No order occupies more than 86 words (R3). -/
theorem decodeOrder_words (w : Word) : 1 ≤ (decodeOrder w).words ∧ (decodeOrder w).words ≤ 86 := by
  cases h : decodeOrder w with
  | text size n => have := decodeOrder_text h; simp only [Order.words]; omega
  | pass e t p => have := decodeOrder_pass h; simp only [Order.words]; omega
  | _ => simp [Order.words]

end Sys2Proof.Machine
end

