-- ==== Sys2Proof/Laws/Results.lean ====
section
/-! SUPPORT. Strike results: what a strike hands on, what taking results keeps, and what meeting them can do. -/

namespace Sys2Proof.Machine

/-- A strike hands on, and changes nothing else (R92). -/
@[simp] theorem attributeStrike_frame (x y : Coord) (s : State) :
    (attributeStrike x y s).time = s.time ∧ (attributeStrike x y s).pins = s.pins ∧
    (attributeStrike x y s).store = s.store ∧ (attributeStrike x y s).follower = s.follower ∧
    (attributeStrike x y s).pass = s.pass ∧ (attributeStrike x y s).segments = s.segments ∧
    (attributeStrike x y s).pen = s.pen ∧ (attributeStrike x y s).menuMap = s.menuMap ∧
    (attributeStrike x y s).gate = s.gate ∧ (attributeStrike x y s).loft = s.loft ∧
    (attributeStrike x y s).tracker = s.tracker ∧ (attributeStrike x y s).echo = s.echo ∧
    (attributeStrike x y s).reports = s.reports ∧ (attributeStrike x y s).passage = s.passage ∧
    (attributeStrike x y s).moment = s.moment ∧ (attributeStrike x y s).choices = s.choices ∧
    (attributeStrike x y s).pending = s.pending := by
  unfold attributeStrike
  try dsimp only
  (repeat' apply And.intro) <;> (repeat' split) <;> simp [handGate, handTracker]

theorem meetResults_none {s : State} (h : s.handed = .none) : meetResults s = s := if_pos h

theorem takeEarlierResults_none {s : State} (h : s.handed = .none) : takeEarlierResults s = s := if_pos h

/-! ### Induction over the results -/

/-- A property that the taking of each result keeps, whatever becomes of what is handed on and of the place in the
sequence of free choices. -/
structure ResultKept (P : State → Prop) : Prop where
  handed : ∀ {s} x, P s → P (s.setHanded x)
  draw : ∀ {s}, P s → P (afterDraw s)
  winner : ∀ {s} w, P s → P (gateWinner w s)
  cross : ∀ {s} x y, P s → P (trackCross x y s)
  sighting : ∀ {s}, P s → P (trackSighting s)

namespace ResultKept

variable {P : State → Prop} (K : ResultKept P)
include K

theorem takeCross {s : State} (r : CrossHandOff) (h : P s) : P (takeCross r s) := by
  cases r
  · exact K.cross _ _ h
  · exact K.sighting h

theorem gateResultsTake {s : State} (n : Nat) (h : P s) : P (gateResultsTake n s) :=
  takeOldest_keeps (P := P) (fun w _ h => K.winner w h) n _ (K.handed _ h)

theorem crossResultsTake {s : State} (n : Nat) (h : P s) : P (crossResultsTake n s) :=
  takeOldest_keeps (P := P) (fun r _ h => K.takeCross r h) n _ (K.handed _ h)

theorem meetResults {s : State} (h : P s) : P (meetResults s) := by
  unfold Machine.meetResults
  split_ifs
  · exact h
  · exact takeSome_keeps (P := P) K.draw K.crossResultsTake _ (takeSome_keeps (P := P) K.draw K.gateResultsTake _ h)

theorem takeEarlierResults {s : State} (h : P s) : P (takeEarlierResults s) := by
  unfold Machine.takeEarlierResults
  split_ifs
  · exact h
  · exact K.crossResultsTake _ (K.gateResultsTake _ h)

end ResultKept

/-! ### What no result changes -/

/-- The state that taking a result leaves as it is: everything beside the Gate Unit, the Tracking Unit, the Report
Writer, the requests of the moment, the free choices and what is handed on. -/
def SameBesideResults (s t : State) : Prop :=
  t.time = s.time ∧ t.pins = s.pins ∧ t.store = s.store ∧ t.follower = s.follower ∧ t.pass = s.pass ∧
  t.segments = s.segments ∧ t.pen = s.pen ∧ t.menuMap = s.menuMap ∧ t.loft = s.loft ∧ t.echo = s.echo ∧
  t.passage = s.passage ∧ t.pending = s.pending

theorem sameBesideResults_kept (s : State) : ResultKept (SameBesideResults s) where
  handed := fun _ h => h
  draw := fun h => h
  winner := fun w h => by simpa [SameBesideResults] using h
  cross := fun x y h => by simpa [SameBesideResults] using h
  sighting := fun h => by simpa [SameBesideResults] using h

theorem sameBesideResults_refl (s : State) : SameBesideResults s s :=
  ⟨rfl, rfl, rfl, rfl, rfl, rfl, rfl, rfl, rfl, rfl, rfl, rfl⟩

@[simp] theorem meetResults_frame (s : State) :
    (meetResults s).time = s.time ∧ (meetResults s).pins = s.pins ∧ (meetResults s).store = s.store ∧
    (meetResults s).follower = s.follower ∧ (meetResults s).pass = s.pass ∧
    (meetResults s).segments = s.segments ∧ (meetResults s).pen = s.pen ∧ (meetResults s).menuMap = s.menuMap ∧
    (meetResults s).loft = s.loft ∧ (meetResults s).echo = s.echo ∧ (meetResults s).passage = s.passage ∧
    (meetResults s).pending = s.pending :=
  (sameBesideResults_kept s).meetResults (sameBesideResults_refl s)

@[simp] theorem takeEarlierResults_frame (s : State) :
    (takeEarlierResults s).time = s.time ∧ (takeEarlierResults s).pins = s.pins ∧
    (takeEarlierResults s).store = s.store ∧ (takeEarlierResults s).follower = s.follower ∧
    (takeEarlierResults s).pass = s.pass ∧ (takeEarlierResults s).segments = s.segments ∧
    (takeEarlierResults s).pen = s.pen ∧ (takeEarlierResults s).menuMap = s.menuMap ∧
    (takeEarlierResults s).loft = s.loft ∧ (takeEarlierResults s).echo = s.echo ∧
    (takeEarlierResults s).passage = s.passage ∧ (takeEarlierResults s).pending = s.pending :=
  (sameBesideResults_kept s).takeEarlierResults (sameBesideResults_refl s)

/-! ### What becomes of what is handed on -/

theorem takeOldest_handed {α : Type} {react : α → State → State} (hr : ∀ x s, (react x s).handed = s.handed) (n : Nat)
    (q : List α) (s : State) : (takeOldest n q react s).handed = s.handed :=
  takeOldest_keeps (P := fun t => t.handed = s.handed) (fun x _ h => (hr x _).trans h) n q rfl

@[simp] theorem gateResultsTake_handed (n : Nat) (s : State) :
    (gateResultsTake n s).handed = { s.handed with gate := s.handed.gate.drop n } := by
  unfold gateResultsTake
  rw [takeOldest_handed (by simp)]
  rfl

@[simp] theorem crossResultsTake_handed (n : Nat) (s : State) :
    (crossResultsTake n s).handed = { s.handed with tracker := s.handed.tracker.drop n } := by
  unfold crossResultsTake
  rw [takeOldest_handed (by intro r; cases r <;> simp [takeCross])]
  rfl

/-! ### The free choices beside the results -/

theorem takeNext_setChoices (n : Nat) (s : State) : takeNext (s.setChoices n) = (takeNext s).setChoices n := by
  rw [takeNext, takeNext]
  simp only [State.setChoices_reports]
  split <;> rfl

theorem requestReport_setChoices (r : Report) (n : Nat) (s : State) :
    requestReport r (s.setChoices n) = (requestReport r s).setChoices n :=
  takeNext_setChoices n (handReport r (s.setReports (s.reports.enqueue r)))

theorem requestTrack_setChoices (b : Bool) (v : ViewSettings) (n : Nat) (s : State) :
    requestTrack b v (s.setChoices n) = (requestTrack b v s).setChoices n := by
  unfold requestTrack
  dsimp only
  rw [show trackReport .track v (s.setChoices n) = trackReport .track v s from rfl, requestReport_setChoices]
  rfl

theorem trackCross_setChoices (x y : Coord) (n : Nat) (s : State) :
    trackCross x y (s.setChoices n) = (trackCross x y s).setChoices n := by
  unfold trackCross
  by_cases hr : (!s.tracker.runs) = true
  · simp [hr]
  · by_cases hl : s.tracker.state = .lost
    · simp only [State.setChoices_tracker, if_neg hr, hl, if_true]
      rw [show ∀ x, (s.setChoices n).setTracker x = (s.setTracker x).setChoices n from fun _ => rfl]
      exact requestTrack_setChoices true _ n ((s.setTracker _).setTracker _)
    · simp only [State.setChoices_tracker, hr, hl, if_false]
      rfl

theorem takeCross_setChoices (r : CrossHandOff) (n : Nat) (s : State) :
    takeCross r (s.setChoices n) = (takeCross r s).setChoices n := by
  cases r
  · exact trackCross_setChoices _ _ n s
  · unfold takeCross trackSighting
    by_cases h : s.tracker.runs = true <;> simp only [State.setChoices_tracker, h] <;> rfl

theorem castVote_setChoices (g : OpenGate) (w : Winner) (n : Nat) (s : State) :
    castVote g w (s.setChoices n) = (castVote g w s).setChoices n := by
  unfold castVote
  by_cases h : s.gate.tally.any (fun e => e.key == w.key) = true
  · simp only [State.setChoices_gate, h]
    rfl
  · by_cases hl : s.gate.tally.length < 8 <;> simp only [State.setChoices_gate, h, hl] <;> rfl

theorem dwellTake_setChoices (w : Winner) (n : Nat) (s : State) :
    dwellTake w (s.setChoices n) = (dwellTake w s).setChoices n := by
  rw [dwellTake, dwellTake, show isDwellWinner w (s.setChoices n) = isDwellWinner w s from rfl]
  split_ifs <;> rfl

theorem hoverTake_setChoices (w : Winner) (n : Nat) (s : State) :
    hoverTake w (s.setChoices n) = (hoverTake w s).setChoices n := by
  unfold hoverTake
  cases w.item with
  | none => rfl
  | some i =>
    by_cases h : (s.gate.active.hover && w.isMenu) = true <;> simp only [State.setChoices_gate, h] <;> rfl

theorem gateWinner_setChoices (w : Winner) (n : Nat) (s : State) :
    gateWinner w (s.setChoices n) = (gateWinner w s).setChoices n := by
  unfold gateWinner
  simp only [State.setChoices_gate]
  rw [← hoverTake_setChoices]
  congr 1
  cases s.gate.gate with
  | none => exact dwellTake_setChoices w n s
  | some g =>
    by_cases h : earlier w.time g.openTime = true
    · simp only [h, if_true]
    · simp only [h]
      exact castVote_setChoices g w n s

theorem takeOldest_setChoices {α : Type} {react : α → State → State}
    (hr : ∀ x n s, react x (s.setChoices n) = (react x s).setChoices n) (n k : Nat) (q : List α) (s : State) :
    takeOldest k q react (s.setChoices n) = (takeOldest k q react s).setChoices n := by
  unfold takeOldest
  generalize q.take k = l
  induction l generalizing s with
  | nil => rfl
  | cons x l ih => exact (congrArg (l.foldl _) (hr x n s)).trans (ih _)

theorem gateResultsTake_setChoices (k n : Nat) (s : State) :
    gateResultsTake k (s.setChoices n) = (gateResultsTake k s).setChoices n :=
  takeOldest_setChoices gateWinner_setChoices n k s.handed.gate
    (s.setHanded { s.handed with gate := s.handed.gate.drop k })

theorem crossResultsTake_setChoices (k n : Nat) (s : State) :
    crossResultsTake k (s.setChoices n) = (crossResultsTake k s).setChoices n :=
  takeOldest_setChoices takeCross_setChoices n k s.handed.tracker
    (s.setHanded { s.handed with tracker := s.handed.tracker.drop k })

/-- All that meeting the results can do: each receiver takes some of its own, the oldest first. -/
theorem meetResults_spec (s : State) : ∃ i ≤ s.handed.gate.length, ∃ j ≤ s.handed.tracker.length, ∃ n,
    meetResults s = (crossResultsTake j (gateResultsTake i s)).setChoices n := by
  have take : ∀ {f : Nat → State → State}, (∀ k n u, f k (u.setChoices n) = (f k u).setChoices n) →
      (∀ u : State, f 0 u = u) → ∀ (l : Nat) (u : State), ∃ i ≤ l, ∃ n, takeSome l f u = (f i u).setChoices n := by
    intro f hf hz l u
    rcases takeSome_spec l f u with ⟨_, e⟩ | ⟨i, hi, e⟩
    · exact ⟨0, Nat.zero_le _, u.choices, by rw [e, hz]; rfl⟩
    · exact ⟨i, hi, u.choices + 1, by rw [e]; exact hf _ _ _⟩
  unfold meetResults
  split_ifs with h
  · exact ⟨0, Nat.zero_le _, 0, Nat.zero_le _, s.choices, rfl⟩
  · obtain ⟨i, hi, n, e⟩ := take gateResultsTake_setChoices (fun _ => rfl) s.handed.gate.length s
    obtain ⟨j, hj, m, e'⟩ := take crossResultsTake_setChoices (fun _ => rfl)
      (takeSome s.handed.gate.length gateResultsTake s).handed.tracker.length
      (takeSome s.handed.gate.length gateResultsTake s)
    refine ⟨i, hi, j, ?_, m, ?_⟩
    · rw [e] at hj
      simpa using hj
    · dsimp only
      rw [e', e, crossResultsTake_setChoices]
      rfl

end Sys2Proof.Machine
end

