-- ==== Sys2Proof/Laws/PenFrames.lean ====
section
/-! SUPPORT. Frames of the Pen Front End, of the frame end and of the frame timeout: every piece of state each leaves
as it is. One lemma per operation; its conjuncts are simp rules. -/

namespace Sys2Proof.Machine

@[simp] theorem judgePulse_frame (s : State) :
    (judgePulse s).time = s.time ∧ (judgePulse s).pins = s.pins ∧ (judgePulse s).store = s.store ∧
    (judgePulse s).follower = s.follower ∧ (judgePulse s).pass = s.pass ∧
    (judgePulse s).segments = s.segments ∧ (judgePulse s).menuMap = s.menuMap ∧
    (judgePulse s).loft = s.loft ∧ (judgePulse s).echo = s.echo ∧
    (judgePulse s).passage = s.passage ∧
    (judgePulse s).pending = s.pending := by
  unfold judgePulse
  try dsimp only
  (repeat' apply And.intro) <;> (repeat' split) <;> simp

@[simp] theorem takeChanges_frame (s : State) :
    (takeChanges s).time = s.time ∧ (takeChanges s).pins = s.pins ∧ (takeChanges s).store = s.store ∧
    (takeChanges s).follower = s.follower ∧ (takeChanges s).pass = s.pass ∧
    (takeChanges s).segments = s.segments ∧ (takeChanges s).menuMap = s.menuMap ∧
    (takeChanges s).gate = s.gate ∧ (takeChanges s).loft = s.loft ∧ (takeChanges s).tracker = s.tracker ∧
    (takeChanges s).echo = s.echo ∧ (takeChanges s).reports = s.reports ∧ (takeChanges s).passage = s.passage ∧
    (takeChanges s).handed = s.handed ∧ (takeChanges s).moment = s.moment ∧
    (takeChanges s).choices = s.choices ∧ (takeChanges s).pending = s.pending := by
  unfold takeChanges
  try dsimp only
  (repeat' apply And.intro) <;> simp

/-- Once the changes offered are taken, the copies show the states as they are. -/
@[simp] theorem takeChanges_pen (s : State) :
    (takeChanges s).pen = { s.pen with followCopy := s.follower.follow, displayCopy := s.follower.display } := rfl

@[simp] theorem pulseMeeting_frame (b : Bool) (s : State) :
    (pulseMeeting b s).time = s.time ∧ (pulseMeeting b s).pins = s.pins ∧
    (pulseMeeting b s).store = s.store ∧ (pulseMeeting b s).follower = s.follower ∧
    (pulseMeeting b s).pass = s.pass ∧ (pulseMeeting b s).segments = s.segments ∧
    (pulseMeeting b s).menuMap = s.menuMap ∧ (pulseMeeting b s).loft = s.loft ∧
    (pulseMeeting b s).echo = s.echo ∧ (pulseMeeting b s).passage = s.passage ∧
    (pulseMeeting b s).pending = s.pending := by
  unfold pulseMeeting
  try dsimp only
  (repeat' apply And.intro) <;> (repeat' split) <;> simp

@[simp] theorem pulse_frame (s : State) :
    (pulse s).time = s.time ∧ (pulse s).pins = s.pins ∧ (pulse s).store = s.store ∧
    (pulse s).follower = s.follower ∧ (pulse s).pass = s.pass ∧ (pulse s).segments = s.segments ∧
    (pulse s).menuMap = s.menuMap ∧ (pulse s).loft = s.loft ∧ (pulse s).echo = s.echo ∧
    (pulse s).passage = s.passage ∧ (pulse s).pending = s.pending := by
  unfold pulse
  try dsimp only
  (repeat' apply And.intro) <;> (repeat' split) <;> simp

/-- A pulse: judged under the copies as they stand, or, while a change is still to be taken, on either side of it. -/
theorem pulse_cases (s : State) :
    (changesTaken s = true ∧ pulse s = judgePulse s) ∨
    (changesTaken s = false ∧ ∃ first, pulse s = pulseMeeting first (afterDraw s)) := by
  rw [pulse]
  cases changesTaken s with
  | true => exact .inl ⟨rfl, if_pos rfl⟩
  | false => exact .inr ⟨rfl, drawn s % 2 == 0, if_neg Bool.false_ne_true⟩

@[simp] theorem photoChange_frame (s : State) :
    (photoChange s).time = s.time ∧ (photoChange s).store = s.store ∧
    (photoChange s).follower = s.follower ∧ (photoChange s).pass = s.pass ∧
    (photoChange s).segments = s.segments ∧ (photoChange s).menuMap = s.menuMap ∧
    (photoChange s).loft = s.loft ∧ (photoChange s).echo = s.echo ∧
    (photoChange s).passage = s.passage ∧ (photoChange s).pending = s.pending := by
  unfold photoChange
  try dsimp only
  (repeat' apply And.intro) <;> (repeat' split) <;> simp

@[simp] theorem repetitionExpires_frame (s : State) :
    (repetitionExpires s).time = s.time ∧ (repetitionExpires s).pins = s.pins ∧
    (repetitionExpires s).store = s.store ∧ (repetitionExpires s).follower = s.follower ∧
    (repetitionExpires s).pass = s.pass ∧ (repetitionExpires s).segments = s.segments ∧
    (repetitionExpires s).menuMap = s.menuMap ∧ (repetitionExpires s).loft = s.loft ∧
    (repetitionExpires s).echo = s.echo ∧ (repetitionExpires s).passage = s.passage ∧
    (repetitionExpires s).pending = s.pending := by
  unfold repetitionExpires
  try dsimp only
  (repeat' apply And.intro) <;> simp

@[simp] theorem discardRecord_frame (s : State) :
    (discardRecord s).time = s.time ∧ (discardRecord s).pins = s.pins ∧ (discardRecord s).store = s.store ∧
    (discardRecord s).follower = s.follower ∧ (discardRecord s).pass = s.pass ∧
    (discardRecord s).segments = s.segments ∧ (discardRecord s).menuMap = s.menuMap ∧
    (discardRecord s).gate = s.gate ∧ (discardRecord s).loft = s.loft ∧ (discardRecord s).tracker = s.tracker ∧
    (discardRecord s).echo = s.echo ∧ (discardRecord s).reports = s.reports ∧
    (discardRecord s).passage = s.passage ∧ (discardRecord s).handed = s.handed ∧
    (discardRecord s).moment = s.moment ∧ (discardRecord s).choices = s.choices ∧
    (discardRecord s).pending = s.pending := by
  unfold discardRecord
  try dsimp only
  (repeat' apply And.intro) <;> simp

@[simp] theorem pinhChanges_frame (s : State) :
    (pinhChanges s).time = s.time ∧ (pinhChanges s).store = s.store ∧ (pinhChanges s).follower = s.follower ∧
    (pinhChanges s).pass = s.pass ∧ (pinhChanges s).segments = s.segments ∧
    (pinhChanges s).menuMap = s.menuMap ∧ (pinhChanges s).gate = s.gate ∧ (pinhChanges s).loft = s.loft ∧
    (pinhChanges s).tracker = s.tracker ∧ (pinhChanges s).echo = s.echo ∧ (pinhChanges s).reports = s.reports ∧
    (pinhChanges s).passage = s.passage ∧ (pinhChanges s).handed = s.handed ∧
    (pinhChanges s).moment = s.moment ∧ (pinhChanges s).choices = s.choices ∧
    (pinhChanges s).pending = s.pending := by
  unfold pinhChanges
  try dsimp only
  (repeat' apply And.intro) <;> (repeat' split) <;> simp

@[simp] theorem tipChanges_frame (s : State) :
    (tipChanges s).time = s.time ∧ (tipChanges s).store = s.store ∧ (tipChanges s).follower = s.follower ∧
    (tipChanges s).pass = s.pass ∧ (tipChanges s).segments = s.segments ∧ (tipChanges s).menuMap = s.menuMap ∧
    (tipChanges s).gate = s.gate ∧ (tipChanges s).loft = s.loft ∧ (tipChanges s).tracker = s.tracker ∧
    (tipChanges s).echo = s.echo ∧ (tipChanges s).reports = s.reports ∧ (tipChanges s).passage = s.passage ∧
    (tipChanges s).handed = s.handed ∧ (tipChanges s).moment = s.moment ∧ (tipChanges s).choices = s.choices ∧
    (tipChanges s).pending = s.pending := by
  unfold tipChanges
  try dsimp only
  (repeat' apply And.intro) <;> simp

@[simp] theorem tipDown_frame (s : State) :
    (tipDown s).time = s.time ∧ (tipDown s).pins = s.pins ∧ (tipDown s).store = s.store ∧
    (tipDown s).follower = s.follower ∧ (tipDown s).pass = s.pass ∧ (tipDown s).segments = s.segments ∧
    (tipDown s).pen = s.pen ∧ (tipDown s).menuMap = s.menuMap ∧ (tipDown s).loft = s.loft ∧
    (tipDown s).reports = s.reports ∧ (tipDown s).passage = s.passage ∧ (tipDown s).handed = s.handed ∧
    (tipDown s).choices = s.choices ∧ (tipDown s).pending = s.pending := by
  unfold tipDown
  try dsimp only
  (repeat' apply And.intro) <;> (repeat' split) <;> simp

@[simp] theorem tipUpAt_frame (e : EventTaker) (s : State) :
    (tipUpAt s e).time = s.time ∧ (tipUpAt s e).pins = s.pins ∧ (tipUpAt s e).store = s.store ∧
    (tipUpAt s e).follower = s.follower ∧ (tipUpAt s e).pass = s.pass ∧ (tipUpAt s e).segments = s.segments ∧
    (tipUpAt s e).pen = s.pen ∧ (tipUpAt s e).menuMap = s.menuMap ∧ (tipUpAt s e).loft = s.loft ∧
    (tipUpAt s e).handed = s.handed ∧ (tipUpAt s e).choices = s.choices ∧ (tipUpAt s e).pending = s.pending := by
  unfold tipUpAt
  try dsimp only
  (repeat' apply And.intro) <;> (repeat' split) <;> simp

@[simp] theorem foldl_tipUpAt_frame (l : List EventTaker) (s : State) :
    (l.foldl tipUpAt s).time = s.time ∧ (l.foldl tipUpAt s).pins = s.pins ∧
    (l.foldl tipUpAt s).store = s.store ∧ (l.foldl tipUpAt s).follower = s.follower ∧
    (l.foldl tipUpAt s).pass = s.pass ∧ (l.foldl tipUpAt s).segments = s.segments ∧
    (l.foldl tipUpAt s).pen = s.pen ∧ (l.foldl tipUpAt s).menuMap = s.menuMap ∧
    (l.foldl tipUpAt s).loft = s.loft ∧ (l.foldl tipUpAt s).handed = s.handed ∧
    (l.foldl tipUpAt s).choices = s.choices ∧ (l.foldl tipUpAt s).pending = s.pending := by
  induction l generalizing s with
  | nil => simp
  | cons e l ih => simpa using ih (tipUpAt s e)

@[simp] theorem tipUpIn_frame (l : List EventTaker) (s : State) :
    (tipUpIn l s).time = s.time ∧ (tipUpIn l s).pins = s.pins ∧ (tipUpIn l s).store = s.store ∧
    (tipUpIn l s).follower = s.follower ∧ (tipUpIn l s).pass = s.pass ∧ (tipUpIn l s).segments = s.segments ∧
    (tipUpIn l s).pen = s.pen ∧ (tipUpIn l s).menuMap = s.menuMap ∧ (tipUpIn l s).loft = s.loft ∧
    (tipUpIn l s).handed = s.handed ∧ (tipUpIn l s).choices = s.choices ∧ (tipUpIn l s).pending = s.pending := by
  unfold tipUpIn
  simp

@[simp] theorem tipUp_frame (s : State) :
    (tipUp s).time = s.time ∧ (tipUp s).pins = s.pins ∧ (tipUp s).store = s.store ∧
    (tipUp s).follower = s.follower ∧ (tipUp s).pass = s.pass ∧ (tipUp s).segments = s.segments ∧
    (tipUp s).pen = s.pen ∧ (tipUp s).menuMap = s.menuMap ∧ (tipUp s).loft = s.loft ∧
    (tipUp s).handed = s.handed ∧ (tipUp s).pending = s.pending := by
  unfold tipUp
  try dsimp only
  (repeat' apply And.intro) <;> simp

@[simp] theorem debounceExpires_frame (s : State) :
    (debounceExpires s).time = s.time ∧ (debounceExpires s).pins = s.pins ∧
    (debounceExpires s).store = s.store ∧ (debounceExpires s).follower = s.follower ∧
    (debounceExpires s).pass = s.pass ∧ (debounceExpires s).segments = s.segments ∧
    (debounceExpires s).menuMap = s.menuMap ∧ (debounceExpires s).loft = s.loft ∧
    (debounceExpires s).handed = s.handed ∧ (debounceExpires s).pending = s.pending := by
  unfold debounceExpires
  try dsimp only
  (repeat' apply And.intro) <;> (repeat' split) <;> simp

@[simp] theorem penFrameEnd_frame (s : State) :
    (penFrameEnd s).time = s.time ∧ (penFrameEnd s).pins = s.pins ∧ (penFrameEnd s).store = s.store ∧
    (penFrameEnd s).follower = s.follower ∧ (penFrameEnd s).pass = s.pass ∧
    (penFrameEnd s).segments = s.segments ∧ (penFrameEnd s).menuMap = s.menuMap ∧
    (penFrameEnd s).gate = s.gate ∧ (penFrameEnd s).loft = s.loft ∧ (penFrameEnd s).tracker = s.tracker ∧
    (penFrameEnd s).echo = s.echo ∧ (penFrameEnd s).reports = s.reports ∧ (penFrameEnd s).passage = s.passage ∧
    (penFrameEnd s).handed = s.handed ∧ (penFrameEnd s).moment = s.moment ∧
    (penFrameEnd s).choices = s.choices ∧ (penFrameEnd s).pending = s.pending := by
  unfold penFrameEnd
  try dsimp only
  (repeat' apply And.intro) <;> simp

@[simp] theorem frameEndAt_frame (x : FrameFacts) (e : FrameTaker) (s : State) :
    (frameEndAt x s e).time = s.time ∧ (frameEndAt x s e).pins = s.pins ∧ (frameEndAt x s e).store = s.store ∧
    (frameEndAt x s e).follower = s.follower ∧ (frameEndAt x s e).pass = s.pass ∧
    (frameEndAt x s e).segments = s.segments ∧ (frameEndAt x s e).pen = s.pen ∧
    (frameEndAt x s e).menuMap = s.menuMap ∧ (frameEndAt x s e).loft = s.loft ∧
    (frameEndAt x s e).handed = s.handed ∧ (frameEndAt x s e).choices = s.choices ∧
    (frameEndAt x s e).pending = s.pending := by
  unfold frameEndAt
  try dsimp only
  (repeat' apply And.intro) <;> (repeat' split) <;> simp

@[simp] theorem frameEndQuiet_frame (s : State) :
    (frameEndQuiet s).time = s.time ∧ (frameEndQuiet s).pins = s.pins ∧ (frameEndQuiet s).store = s.store ∧
    (frameEndQuiet s).menuMap = s.menuMap ∧ (frameEndQuiet s).gate = s.gate ∧
    (frameEndQuiet s).tracker = s.tracker ∧ (frameEndQuiet s).echo = s.echo ∧
    (frameEndQuiet s).reports = s.reports ∧ (frameEndQuiet s).passage = s.passage ∧
    (frameEndQuiet s).handed = s.handed ∧ (frameEndQuiet s).moment = s.moment ∧
    (frameEndQuiet s).choices = s.choices ∧ (frameEndQuiet s).pending = s.pending := by
  unfold frameEndQuiet
  try dsimp only
  (repeat' apply And.intro) <;> simp

@[simp] theorem foldl_frameEndAt_frame (x : FrameFacts) (l : List FrameTaker) (s : State) :
    (l.foldl (frameEndAt x) s).time = s.time ∧ (l.foldl (frameEndAt x) s).pins = s.pins ∧
    (l.foldl (frameEndAt x) s).store = s.store ∧ (l.foldl (frameEndAt x) s).follower = s.follower ∧
    (l.foldl (frameEndAt x) s).pass = s.pass ∧ (l.foldl (frameEndAt x) s).segments = s.segments ∧
    (l.foldl (frameEndAt x) s).pen = s.pen ∧ (l.foldl (frameEndAt x) s).menuMap = s.menuMap ∧
    (l.foldl (frameEndAt x) s).loft = s.loft ∧ (l.foldl (frameEndAt x) s).handed = s.handed ∧
    (l.foldl (frameEndAt x) s).choices = s.choices ∧ (l.foldl (frameEndAt x) s).pending = s.pending := by
  induction l generalizing s with
  | nil => simp
  | cons e l ih => simpa using ih (frameEndAt x s e)

@[simp] theorem frameEndIn_frame (l : List FrameTaker) (a : Addr) (s : State) :
    (frameEndIn l a s).time = s.time ∧ (frameEndIn l a s).pins = s.pins ∧ (frameEndIn l a s).store = s.store ∧
    (frameEndIn l a s).menuMap = s.menuMap ∧ (frameEndIn l a s).handed = s.handed ∧
    (frameEndIn l a s).choices = s.choices ∧ (frameEndIn l a s).pending = s.pending := by
  unfold frameEndIn
  simp

@[simp] theorem frameEnd_frame (a : Addr) (s : State) :
    (frameEnd a s).time = s.time ∧ (frameEnd a s).pins = s.pins ∧ (frameEnd a s).store = s.store ∧
    (frameEnd a s).menuMap = s.menuMap ∧ (frameEnd a s).handed = s.handed ∧ (frameEnd a s).pending = s.pending := by
  unfold frameEnd
  try dsimp only
  (repeat' apply And.intro) <;> simp

@[simp] theorem stoppedAt_frame (e : EventTaker) (s : State) :
    (stoppedAt s e).time = s.time ∧ (stoppedAt s e).pins = s.pins ∧ (stoppedAt s e).store = s.store ∧
    (stoppedAt s e).follower = s.follower ∧ (stoppedAt s e).pass = s.pass ∧
    (stoppedAt s e).segments = s.segments ∧ (stoppedAt s e).pen = s.pen ∧ (stoppedAt s e).menuMap = s.menuMap ∧
    (stoppedAt s e).loft = s.loft ∧ (stoppedAt s e).handed = s.handed ∧ (stoppedAt s e).choices = s.choices ∧
    (stoppedAt s e).pending = s.pending := by
  unfold stoppedAt
  try dsimp only
  (repeat' apply And.intro) <;> (repeat' split) <;> simp

@[simp] theorem stopDisplay_frame (s : State) :
    (stopDisplay s).time = s.time ∧ (stopDisplay s).pins = s.pins ∧ (stopDisplay s).store = s.store ∧
    (stopDisplay s).pass = s.pass ∧ (stopDisplay s).segments = s.segments ∧
    (stopDisplay s).menuMap = s.menuMap ∧ (stopDisplay s).gate = s.gate ∧ (stopDisplay s).loft = s.loft ∧
    (stopDisplay s).tracker = s.tracker ∧ (stopDisplay s).echo = s.echo ∧ (stopDisplay s).reports = s.reports ∧
    (stopDisplay s).passage = s.passage ∧ (stopDisplay s).handed = s.handed ∧
    (stopDisplay s).moment = s.moment ∧ (stopDisplay s).choices = s.choices ∧
    (stopDisplay s).pending = s.pending := by
  unfold stopDisplay
  try dsimp only
  (repeat' apply And.intro) <;> simp

@[simp] theorem foldl_stoppedAt_frame (l : List EventTaker) (s : State) :
    (l.foldl stoppedAt s).time = s.time ∧ (l.foldl stoppedAt s).pins = s.pins ∧
    (l.foldl stoppedAt s).store = s.store ∧ (l.foldl stoppedAt s).follower = s.follower ∧
    (l.foldl stoppedAt s).pass = s.pass ∧ (l.foldl stoppedAt s).segments = s.segments ∧
    (l.foldl stoppedAt s).pen = s.pen ∧ (l.foldl stoppedAt s).menuMap = s.menuMap ∧
    (l.foldl stoppedAt s).loft = s.loft ∧ (l.foldl stoppedAt s).handed = s.handed ∧
    (l.foldl stoppedAt s).choices = s.choices ∧ (l.foldl stoppedAt s).pending = s.pending := by
  induction l generalizing s with
  | nil => simp
  | cons e l ih => simpa using ih (stoppedAt s e)

@[simp] theorem timeoutExpiresIn_frame (l : List EventTaker) (s : State) :
    (timeoutExpiresIn l s).time = s.time ∧ (timeoutExpiresIn l s).pins = s.pins ∧
    (timeoutExpiresIn l s).store = s.store ∧ (timeoutExpiresIn l s).pass = s.pass ∧
    (timeoutExpiresIn l s).segments = s.segments ∧ (timeoutExpiresIn l s).menuMap = s.menuMap ∧
    (timeoutExpiresIn l s).loft = s.loft ∧ (timeoutExpiresIn l s).handed = s.handed ∧
    (timeoutExpiresIn l s).choices = s.choices ∧ (timeoutExpiresIn l s).pending = s.pending := by
  unfold timeoutExpiresIn
  simp

@[simp] theorem timeoutExpires_frame (s : State) :
    (timeoutExpires s).time = s.time ∧ (timeoutExpires s).pins = s.pins ∧ (timeoutExpires s).store = s.store ∧
    (timeoutExpires s).pass = s.pass ∧ (timeoutExpires s).segments = s.segments ∧
    (timeoutExpires s).menuMap = s.menuMap ∧ (timeoutExpires s).loft = s.loft ∧
    (timeoutExpires s).handed = s.handed ∧ (timeoutExpires s).pending = s.pending := by
  unfold timeoutExpires
  try dsimp only
  (repeat' apply And.intro) <;> simp

end Sys2Proof.Machine
end

