-- ==== Sys2Proof/Laws/Notices.lean ====
section
/-! SUPPORT. The notices of P-writes: what every watcher's own handling keeps, meeting, settling and giving notices
keep; and that with no notice being taken nothing is met. -/

namespace Sys2Proof.Machine

@[simp] theorem historyNotice_frame (a : Addr) (s : State) :
    (historyNotice a s).time = s.time ∧ (historyNotice a s).pins = s.pins ∧
    (historyNotice a s).store = s.store ∧ (historyNotice a s).pass = s.pass ∧
    (historyNotice a s).segments = s.segments ∧ (historyNotice a s).pen = s.pen ∧
    (historyNotice a s).menuMap = s.menuMap ∧ (historyNotice a s).gate = s.gate ∧
    (historyNotice a s).loft = s.loft ∧ (historyNotice a s).tracker = s.tracker ∧
    (historyNotice a s).echo = s.echo ∧ (historyNotice a s).reports = s.reports ∧
    (historyNotice a s).passage = s.passage ∧ (historyNotice a s).handed = s.handed ∧
    (historyNotice a s).moment = s.moment ∧ (historyNotice a s).choices = s.choices ∧
    (historyNotice a s).pending = s.pending := by
  unfold historyNotice
  try dsimp only
  (repeat' apply And.intro) <;> simp

/-! ### No notice being taken -/

theorem meetNotices_none {s : State} (h : s.passage.notices = .none) : meetNotices s = s := if_pos h

theorem settleNotices_none {s : State} (h : s.passage.notices = .none) : settleNotices s = s := if_pos h

/-- With nothing still to be taken nothing is met. -/
theorem meet_none {s : State} (h : s.passage.notices = .none) (g : s.handed = .none) : meet s = s := by
  rw [meet, meetNotices_none h, meetResults_none g]

/-! ### Induction over the notices -/

/-- A property that the handling of each notice keeps, whatever becomes of the lists of notices, the lock and the place
in the sequence of free choices. -/
structure NoticeKept (P : State → Prop) : Prop where
  notices : ∀ {s} x, P s → P (s.setNotices x)
  lock : ∀ {s} a b, P s → P (s.setPassage { s.passage with lockHeld := a, pairWritten := b })
  draw : ∀ {s}, P s → P (afterDraw s)
  follower : ∀ {s} a, P s → P (historyNotice a s)
  menuMap : ∀ {s} a, P s → P (s.setMenuMap (menuInvalidate a s.menuMap))
  gate : ∀ {s} a, P s → P (gateInvalidated a s)
  pass : ∀ {s} a, P s → P (passNotice a s)
  tracker : ∀ {s} a, P s → P (trackNotice a s)
  reports : ∀ {s} a d, P s → P (reportsNotice a d s)

namespace NoticeKept

variable {P : State → Prop} (K : NoticeKept P)
include K

theorem followerTakes {s : State} (n : Nat) (h : P s) : P (followerTakes n s) := by
  have hr : ∀ (x : Notice) {s : State}, P s → P ((fun x => historyNotice x.addr) x s) := fun x _ h =>
    K.follower x.addr h
  exact takeOldest_keeps (P := P) hr n _ (K.notices _ h)

theorem menuTakes {s : State} (n : Nat) (h : P s) : P (menuTakes n s) := by
  have hr : ∀ (x : Notice) {s : State}, P s → P ((fun x => menuNotice x.addr) x s) := fun x _ h =>
    K.notices _ (K.menuMap x.addr h)
  exact takeOldest_keeps (P := P) hr n _ (K.notices _ h)

theorem gateTakes {s : State} (n : Nat) (h : P s) : P (gateTakes n s) := by
  have hr : ∀ (x : Addr) {s : State}, P s → P (gateInvalidated x s) := fun x _ h =>
    K.gate x h
  exact takeOldest_keeps (P := P) hr n _ (K.notices _ h)

theorem passTakes {s : State} (n : Nat) (h : P s) : P (passTakes n s) := by
  have hr : ∀ (x : Notice) {s : State}, P s → P ((fun x => passNotice x.addr) x s) := fun x _ h =>
    K.pass x.addr h
  exact takeOldest_keeps (P := P) hr n _ (K.notices _ h)

theorem trackerTakes {s : State} (n : Nat) (h : P s) : P (trackerTakes n s) := by
  have hr : ∀ (x : Notice) {s : State}, P s → P ((fun x => trackNotice x.addr) x s) := fun x _ h =>
    K.tracker x.addr h
  exact takeOldest_keeps (P := P) hr n _ (K.notices _ h)

theorem reportsTakes {s : State} (n : Nat) (h : P s) : P (reportsTakes n s) := by
  have hr : ∀ (x : Notice) {s : State}, P s → P ((fun x => reportsNotice x.addr x.data) x s) := fun x _ h =>
    K.reports x.addr x.data h
  exact takeOldest_keeps (P := P) hr n _ (K.notices _ h)

theorem endPair {s : State} (h : P s) : P (endPair s) := by
  unfold Machine.endPair
  split_ifs
  · exact K.lock _ _ h
  · exact h

theorem takeSome {s : State} {take : Nat → State → State} (ht : ∀ {s} n, P s → P (take n s)) (length : Nat)
    (h : P s) : P (takeSome length take s) := takeSome_keeps (P := P) K.draw ht length h

theorem meetNotices {s : State} (h : P s) : P (meetNotices s) := by
  unfold Machine.meetNotices
  split_ifs
  · exact h
  · exact K.endPair (K.takeSome K.reportsTakes _ (K.takeSome K.trackerTakes _ (K.takeSome K.passTakes _
      (K.takeSome K.gateTakes _ (K.takeSome K.menuTakes _ (K.takeSome K.followerTakes _ h))))))

theorem settleNotices {s : State} (h : P s) : P (settleNotices s) := by
  unfold Machine.settleNotices
  split_ifs
  · exact h
  · exact K.endPair (K.reportsTakes _ (K.trackerTakes _ (K.passTakes _
      (K.gateTakes _ (K.menuTakes _ (K.followerTakes _ h))))))

theorem giveNotice {s : State} (a : Addr) (d : Word) (h : P s) : P (giveNotice a d s) :=
  K.meetNotices (K.notices _ h)

end NoticeKept

/-! ### What no notice changes -/

/-- What the Store Passage holds beside the lock, the count and the notices. -/
def SamePort (s t : State) : Prop :=
  t.passage.port = s.passage.port ∧ t.passage.held = s.passage.held ∧
  t.passage.resetInForce = s.passage.resetInForce

/-- The state that handling a notice leaves as it is: everything beside the six watchers' blocks, the free choices and
the Passage's lock, count and notices. -/
def SameBesideNotices (s t : State) : Prop :=
  t.time = s.time ∧ t.pins = s.pins ∧ t.store = s.store ∧ t.segments = s.segments ∧ t.pen = s.pen ∧
  t.loft = s.loft ∧ t.echo = s.echo ∧ t.handed = s.handed ∧ t.moment = s.moment ∧ t.pending = s.pending ∧
  SamePort s t

/-- A state whose Store Passage differs in the fair-share count alone, which a withdrawal may return to 0 (R166). -/
def SamePassage (s t : State) : Prop := t.passage = { s.passage with fairShare := t.passage.fairShare }

theorem SamePassage.of_eq {s t : State} (h : t.passage = s.passage) : SamePassage s t := by rw [SamePassage, h]

theorem SamePassage.trans {s t u : State} (h : SamePassage s t) (g : SamePassage t u) : SamePassage s u := by
  unfold SamePassage at *
  rw [g, h]

theorem SamePassage.port {s t : State} (h : SamePassage s t) : SamePort s t := by
  unfold SamePassage at h
  rw [SamePort, h]
  exact ⟨rfl, rfl, rfl⟩

theorem SamePassage.notices {s t : State} (h : SamePassage s t) : t.passage.notices = s.passage.notices := by
  rw [SamePassage] at h
  rw [h]

theorem SamePort.trans {s t u : State} (h : SamePort s t) (g : SamePort t u) : SamePort s u :=
  ⟨g.1.trans h.1, g.2.1.trans h.2.1, g.2.2.trans h.2.2⟩

theorem samePassage_afterWithdrawal (s : State) : SamePassage s (afterWithdrawal s) := by
  unfold afterWithdrawal
  split_ifs <;> rfl

theorem samePassage_passNotice (a : Addr) (s : State) : SamePassage s (passNotice a s) := by
  unfold passNotice
  split_ifs
  · exact samePassage_afterWithdrawal _
  · exact .of_eq rfl

theorem samePassage_trackNotice (a : Addr) (s : State) : SamePassage s (trackNotice a s) := by
  unfold trackNotice
  dsimp only
  split
  · split_ifs
    · exact samePassage_afterWithdrawal _
    · exact .of_eq rfl
  · exact .of_eq rfl

theorem samePassage_setReports (s : State) (w : ReportWriter) : SamePassage s (s.setReports w) :=
  .of_eq rfl

theorem samePassage_wait (o : WriteOut) (s : State) : SamePassage s (afterWithdrawal (enterWaiting o s)) :=
  SamePassage.trans (t := enterWaiting o s) (.of_eq rfl) (samePassage_afterWithdrawal _)

theorem samePassage_enterClaim (r : Report) (i : Nat) (s : State) : SamePassage s (enterClaim r i s) :=
  SamePassage.of_eq (by simp)

theorem samePassage_applyRing (r : Ring) (s : State) : SamePassage s (applyRing r s) := by
  unfold applyRing
  dsimp only
  split
  · exact SamePassage.of_eq (by simp)
  · split
    · refine SamePassage.trans ?_ (samePassage_enterClaim _ _ _)
      exact (samePassage_setReports s _).trans (samePassage_wait _ _)
    · exact (samePassage_setReports s _).trans (samePassage_enterClaim _ _ _)
    all_goals exact .of_eq rfl

theorem samePassage_afterFill (s : State) : SamePassage s (afterFill s) := by
  unfold afterFill
  split_ifs
  · split
    · exact samePassage_applyRing _ s
    · exact .of_eq rfl
  · exact .of_eq rfl

theorem samePassage_reportsNotice (a : Addr) (d : Word) (s : State) : SamePassage s (reportsNotice a d s) := by
  unfold reportsNotice
  dsimp only
  repeat' split
  all_goals first
    | exact .of_eq rfl
    | exact (samePassage_setReports s _).trans (samePassage_enterClaim _ _ _)
    | exact (samePassage_setReports s _).trans (samePassage_wait _ _)
    | exact ((samePassage_setReports s _).trans (samePassage_wait _ _)).trans (samePassage_afterFill _)

/-- The handling of one notice changes nothing beside the watchers' blocks. -/
theorem sameBesideNotices_kept (s : State) : NoticeKept (SameBesideNotices s) where
  notices := fun _ h => h
  lock := fun _ _ h => h
  draw := fun h => h
  follower := fun a h => by simpa [SameBesideNotices, SamePort] using h
  menuMap := fun _ h => h
  gate := fun a h => by simpa [SameBesideNotices, SamePort] using h
  pass := fun a h => by
    obtain ⟨h₁, h₂, h₃, h₄, h₅, h₆, h₇, h₈, h₉, h₁₀, hp⟩ := h
    exact ⟨by simpa, by simpa, by simpa, by simpa, by simpa, by simpa, by simpa, by simpa, by simpa, by simpa,
      hp.trans (samePassage_passNotice a _).port⟩
  tracker := fun a h => by
    obtain ⟨h₁, h₂, h₃, h₄, h₅, h₆, h₇, h₈, h₉, h₁₀, hp⟩ := h
    exact ⟨by simpa, by simpa, by simpa, by simpa, by simpa, by simpa, by simpa, by simpa, by simpa, by simpa,
      hp.trans (samePassage_trackNotice a _).port⟩
  reports := fun a d h => by
    obtain ⟨h₁, h₂, h₃, h₄, h₅, h₆, h₇, h₈, h₉, h₁₀, hp⟩ := h
    exact ⟨by simpa, by simpa, by simpa, by simpa, by simpa, by simpa, by simpa, by simpa, by simpa, by simpa,
      hp.trans (samePassage_reportsNotice a d _).port⟩

theorem sameBesideNotices_refl (s : State) : SameBesideNotices s s :=
  ⟨rfl, rfl, rfl, rfl, rfl, rfl, rfl, rfl, rfl, rfl, rfl, rfl, rfl⟩

theorem meetNotices_beside (s : State) : SameBesideNotices s (meetNotices s) :=
  (sameBesideNotices_kept s).meetNotices (sameBesideNotices_refl s)

theorem settleNotices_beside (s : State) : SameBesideNotices s (settleNotices s) :=
  (sameBesideNotices_kept s).settleNotices (sameBesideNotices_refl s)

theorem giveNotice_beside (a : Addr) (d : Word) (s : State) : SameBesideNotices s (giveNotice a d s) :=
  (sameBesideNotices_kept s).giveNotice a d (sameBesideNotices_refl s)

@[simp] theorem meetNotices_frame (s : State) :
    (meetNotices s).time = s.time ∧ (meetNotices s).pins = s.pins ∧ (meetNotices s).store = s.store ∧
    (meetNotices s).segments = s.segments ∧ (meetNotices s).pen = s.pen ∧ (meetNotices s).loft = s.loft ∧
    (meetNotices s).echo = s.echo ∧ (meetNotices s).handed = s.handed ∧ (meetNotices s).moment = s.moment ∧
    (meetNotices s).pending = s.pending ∧ (meetNotices s).passage.port = s.passage.port ∧
    (meetNotices s).passage.held = s.passage.held ∧
    (meetNotices s).passage.resetInForce = s.passage.resetInForce :=
  meetNotices_beside s

@[simp] theorem settleNotices_frame (s : State) :
    (settleNotices s).time = s.time ∧ (settleNotices s).pins = s.pins ∧ (settleNotices s).store = s.store ∧
    (settleNotices s).segments = s.segments ∧ (settleNotices s).pen = s.pen ∧ (settleNotices s).loft = s.loft ∧
    (settleNotices s).echo = s.echo ∧ (settleNotices s).handed = s.handed ∧
    (settleNotices s).moment = s.moment ∧ (settleNotices s).pending = s.pending ∧
    (settleNotices s).passage.port = s.passage.port ∧ (settleNotices s).passage.held = s.passage.held ∧
    (settleNotices s).passage.resetInForce = s.passage.resetInForce :=
  settleNotices_beside s

@[simp] theorem giveNotice_frame (a : Addr) (d : Word) (s : State) :
    (giveNotice a d s).time = s.time ∧ (giveNotice a d s).pins = s.pins ∧ (giveNotice a d s).store = s.store ∧
    (giveNotice a d s).segments = s.segments ∧ (giveNotice a d s).pen = s.pen ∧
    (giveNotice a d s).loft = s.loft ∧ (giveNotice a d s).echo = s.echo ∧ (giveNotice a d s).handed = s.handed ∧
    (giveNotice a d s).moment = s.moment ∧ (giveNotice a d s).pending = s.pending ∧
    (giveNotice a d s).passage.port = s.passage.port ∧ (giveNotice a d s).passage.held = s.passage.held ∧
    (giveNotice a d s).passage.resetInForce = s.passage.resetInForce :=
  giveNotice_beside a d s

@[simp] theorem meet_frame (s : State) :
    (meet s).time = s.time ∧ (meet s).pins = s.pins ∧ (meet s).store = s.store ∧ (meet s).segments = s.segments ∧
    (meet s).pen = s.pen ∧ (meet s).loft = s.loft ∧ (meet s).echo = s.echo ∧ (meet s).pending = s.pending ∧
    (meet s).passage.port = s.passage.port ∧ (meet s).passage.held = s.passage.held ∧
    (meet s).passage.resetInForce = s.passage.resetInForce := by
  simp [meet]

/-! ### What becomes of the lists of notices -/

theorem takeOldest_notices {α : Type} {react : α → State → State}
    (hr : ∀ x s, (react x s).passage.notices = s.passage.notices) (n : Nat) (q : List α) (s : State) :
    (takeOldest n q react s).passage.notices = s.passage.notices :=
  takeOldest_keeps (P := fun t => t.passage.notices = s.passage.notices) (fun x _ h => (hr x _).trans h) n q rfl

theorem followerTakes_notices (n : Nat) (s : State) : (followerTakes n s).passage.notices =
    { s.passage.notices with follower := s.passage.notices.follower.drop n } := by
  unfold followerTakes
  rw [takeOldest_notices (by intros; simp)]
  simp

theorem gateTakes_notices (n : Nat) (s : State) : (gateTakes n s).passage.notices =
    { s.passage.notices with gate := s.passage.notices.gate.drop n } := by
  unfold gateTakes
  rw [takeOldest_notices (by intros; simp)]
  simp

theorem passTakes_notices (n : Nat) (s : State) : (passTakes n s).passage.notices =
    { s.passage.notices with pass := s.passage.notices.pass.drop n } := by
  unfold passTakes
  rw [takeOldest_notices (by intros; exact (samePassage_passNotice _ _).notices)]
  simp

theorem trackerTakes_notices (n : Nat) (s : State) : (trackerTakes n s).passage.notices =
    { s.passage.notices with tracker := s.passage.notices.tracker.drop n } := by
  unfold trackerTakes
  rw [takeOldest_notices (by intros; exact (samePassage_trackNotice _ _).notices)]
  simp

theorem reportsTakes_notices (n : Nat) (s : State) : (reportsTakes n s).passage.notices =
    { s.passage.notices with reports := s.passage.notices.reports.drop n } := by
  unfold reportsTakes
  rw [takeOldest_notices (by intros; exact (samePassage_reportsNotice _ _ _).notices)]
  simp

theorem menuNotice_notices (a : Addr) (s : State) : (menuNotice a s).passage.notices =
    { s.passage.notices with gate := s.passage.notices.gate ++ invalidatedTexts a s.menuMap } := rfl

/-- The Menu Map's notices become invalidation notices at the Gate Unit (R97). -/
theorem menuTakes_notices (n : Nat) (s : State) : ∃ g, (menuTakes n s).passage.notices =
    { s.passage.notices with
      menuMap := s.passage.notices.menuMap.drop n, gate := s.passage.notices.gate ++ g } := by
  unfold menuTakes
  generalize hd : { s.passage.notices with menuMap := s.passage.notices.menuMap.drop n } = d
  have step : ∀ (x : Notice) {t : State}, (∃ g, t.passage.notices = { d with gate := d.gate ++ g }) →
      ∃ g, (menuNotice x.addr t).passage.notices = { d with gate := d.gate ++ g } := by
    rintro x t ⟨g, hg⟩
    exact ⟨g ++ invalidatedTexts x.addr t.menuMap, by rw [menuNotice_notices, hg, List.append_assoc]⟩
  obtain ⟨g, hg⟩ := takeOldest_keeps step n s.passage.notices.menuMap (s := s.setNotices d) ⟨[], by simp⟩
  subst hd
  exact ⟨g, hg⟩

@[simp] theorem endPair_notices (s : State) : (endPair s).passage.notices = s.passage.notices := by
  unfold endPair
  split_ifs <;> rfl

/-- Once every notice is settled none is being taken. -/
theorem settleNotices_taken (s : State) : (settleNotices s).passage.notices = .none := by
  unfold settleNotices
  split_ifs with h
  · exact h
  · obtain ⟨g, hg⟩ := menuTakes_notices s.passage.notices.menuMap.length
      (followerTakes s.passage.notices.follower.length s)
    simp [reportsTakes_notices, trackerTakes_notices, passTakes_notices, gateTakes_notices, followerTakes_notices, hg,
      Notices.none]

end Sys2Proof.Machine
end

