-- ==== Sys2Proof/Laws/MachineFrames.lean ====
section
/-! SUPPORT. Frames of the fetch, the arbiter and the resets: every piece of state each leaves as it is. -/

namespace Sys2Proof.Machine

@[simp] theorem enterLost_frame (c : Condition) (a : Addr) (s : State) :
    (enterLost c a s).time = s.time ∧ (enterLost c a s).pins = s.pins ∧ (enterLost c a s).store = s.store ∧
    (enterLost c a s).pass = s.pass ∧ (enterLost c a s).segments = s.segments ∧
    (enterLost c a s).menuMap = s.menuMap ∧ (enterLost c a s).gate = s.gate ∧ (enterLost c a s).loft = s.loft ∧
    (enterLost c a s).tracker = s.tracker ∧ (enterLost c a s).echo = s.echo ∧
    (enterLost c a s).passage = s.passage ∧ (enterLost c a s).handed = s.handed ∧
    (enterLost c a s).choices = s.choices ∧ (enterLost c a s).pending = s.pending := by
  unfold enterLost
  try dsimp only
  (repeat' apply And.intro) <;> simp

@[simp] theorem searchFetch_frame (w : Word) (s : State) :
    (searchFetch w s).time = s.time ∧ (searchFetch w s).pins = s.pins ∧ (searchFetch w s).store = s.store ∧
    (searchFetch w s).pass = s.pass ∧ (searchFetch w s).segments = s.segments ∧ (searchFetch w s).pen = s.pen ∧
    (searchFetch w s).menuMap = s.menuMap ∧ (searchFetch w s).gate = s.gate ∧ (searchFetch w s).loft = s.loft ∧
    (searchFetch w s).tracker = s.tracker ∧ (searchFetch w s).echo = s.echo ∧
    (searchFetch w s).reports = s.reports ∧ (searchFetch w s).passage = s.passage ∧
    (searchFetch w s).handed = s.handed ∧ (searchFetch w s).moment = s.moment ∧
    (searchFetch w s).choices = s.choices ∧ (searchFetch w s).pending = s.pending := by
  unfold searchFetch
  try dsimp only
  (repeat' apply And.intro) <;> (repeat' split) <;> simp

@[simp] theorem resyncAt_frame (a : Addr) (s : State) :
    (resyncAt a s).time = s.time ∧ (resyncAt a s).pins = s.pins ∧ (resyncAt a s).store = s.store ∧
    (resyncAt a s).menuMap = s.menuMap ∧ (resyncAt a s).handed = s.handed ∧ (resyncAt a s).pending = s.pending := by
  unfold resyncAt
  try dsimp only
  (repeat' apply And.intro) <;> simp

@[simp] theorem recordVisible_frame (a : Addr) (o : Order) (s : State) :
    (recordVisible a o s).time = s.time ∧ (recordVisible a o s).pins = s.pins ∧
    (recordVisible a o s).store = s.store ∧ (recordVisible a o s).pass = s.pass ∧
    (recordVisible a o s).segments = s.segments ∧ (recordVisible a o s).pen = s.pen ∧
    (recordVisible a o s).menuMap = s.menuMap ∧ (recordVisible a o s).gate = s.gate ∧
    (recordVisible a o s).loft = s.loft ∧ (recordVisible a o s).tracker = s.tracker ∧
    (recordVisible a o s).echo = s.echo ∧ (recordVisible a o s).reports = s.reports ∧
    (recordVisible a o s).passage = s.passage ∧ (recordVisible a o s).handed = s.handed ∧
    (recordVisible a o s).moment = s.moment ∧ (recordVisible a o s).choices = s.choices ∧
    (recordVisible a o s).pending = s.pending := by
  unfold recordVisible
  try dsimp only
  (repeat' apply And.intro) <;> (repeat' split) <;> simp

@[simp] theorem recordChars_frame (p : InProgress) (s : State) :
    (recordChars p s).time = s.time ∧ (recordChars p s).pins = s.pins ∧ (recordChars p s).store = s.store ∧
    (recordChars p s).pass = s.pass ∧ (recordChars p s).segments = s.segments ∧ (recordChars p s).pen = s.pen ∧
    (recordChars p s).menuMap = s.menuMap ∧ (recordChars p s).gate = s.gate ∧ (recordChars p s).loft = s.loft ∧
    (recordChars p s).tracker = s.tracker ∧ (recordChars p s).echo = s.echo ∧
    (recordChars p s).reports = s.reports ∧ (recordChars p s).passage = s.passage ∧
    (recordChars p s).handed = s.handed ∧ (recordChars p s).moment = s.moment ∧
    (recordChars p s).choices = s.choices ∧ (recordChars p s).pending = s.pending := by
  unfold recordChars
  try dsimp only
  (repeat' apply And.intro) <;> (repeat' split) <;> simp

@[simp] theorem handOrderWord_frame (a : Addr) (w : Word) (o : Order) (s : State) :
    (handOrderWord a w o s).time = s.time ∧ (handOrderWord a w o s).pins = s.pins ∧
    (handOrderWord a w o s).store = s.store ∧ (handOrderWord a w o s).follower = s.follower ∧
    (handOrderWord a w o s).pass = s.pass ∧ (handOrderWord a w o s).segments = s.segments ∧
    (handOrderWord a w o s).pen = s.pen ∧ (handOrderWord a w o s).gate = s.gate ∧
    (handOrderWord a w o s).loft = s.loft ∧ (handOrderWord a w o s).echo = s.echo ∧
    (handOrderWord a w o s).reports = s.reports ∧ (handOrderWord a w o s).passage = s.passage ∧
    (handOrderWord a w o s).handed = s.handed ∧ (handOrderWord a w o s).moment = s.moment ∧
    (handOrderWord a w o s).choices = s.choices ∧ (handOrderWord a w o s).pending = s.pending := by
  unfold handOrderWord
  try dsimp only
  (repeat' apply And.intro) <;> (repeat' split) <;> simp

@[simp] theorem handOperand_frame (p : InProgress) (w : Word) (s : State) :
    (handOperand p w s).time = s.time ∧ (handOperand p w s).pins = s.pins ∧
    (handOperand p w s).store = s.store ∧ (handOperand p w s).follower = s.follower ∧
    (handOperand p w s).pass = s.pass ∧ (handOperand p w s).segments = s.segments ∧
    (handOperand p w s).pen = s.pen ∧ (handOperand p w s).gate = s.gate ∧ (handOperand p w s).loft = s.loft ∧
    (handOperand p w s).tracker = s.tracker ∧ (handOperand p w s).echo = s.echo ∧
    (handOperand p w s).reports = s.reports ∧ (handOperand p w s).passage = s.passage ∧
    (handOperand p w s).handed = s.handed ∧ (handOperand p w s).moment = s.moment ∧
    (handOperand p w s).choices = s.choices ∧ (handOperand p w s).pending = s.pending := by
  unfold handOperand
  try dsimp only
  (repeat' apply And.intro) <;> (repeat' split) <;> simp

@[simp] theorem applyOrder_frame (a : Addr) (o : Order) (ws : List Word) (s : State) :
    (applyOrder a o ws s).time = s.time ∧ (applyOrder a o ws s).pins = s.pins ∧
    (applyOrder a o ws s).store = s.store ∧ (applyOrder a o ws s).menuMap = s.menuMap ∧
    (applyOrder a o ws s).handed = s.handed ∧ (applyOrder a o ws s).choices = s.choices ∧
    (applyOrder a o ws s).pending = s.pending := by
  unfold applyOrder
  try dsimp only
  (repeat' apply And.intro) <;> (repeat' split) <;> simp

@[simp] theorem completeOrder_frame (a : Addr) (o : Order) (ws : List Word) (l : Addr) (s : State) :
    (completeOrder a o ws l s).time = s.time ∧ (completeOrder a o ws l s).pins = s.pins ∧
    (completeOrder a o ws l s).store = s.store ∧ (completeOrder a o ws l s).menuMap = s.menuMap ∧
    (completeOrder a o ws l s).handed = s.handed ∧ (completeOrder a o ws l s).choices = s.choices ∧
    (completeOrder a o ws l s).pending = s.pending := by
  unfold completeOrder
  try dsimp only
  (repeat' apply And.intro) <;> (repeat' split) <;> simp

@[simp] theorem followOrder_frame (a : Addr) (w : Word) (o : Order) (s : State) :
    (followOrder a w o s).time = s.time ∧ (followOrder a w o s).pins = s.pins ∧
    (followOrder a w o s).store = s.store ∧ (followOrder a w o s).handed = s.handed ∧
    (followOrder a w o s).pending = s.pending := by
  unfold followOrder
  try dsimp only
  (repeat' apply And.intro) <;> (repeat' split) <;> simp

@[simp] theorem followRestart_frame (a t : Addr) (s : State) :
    (followRestart a t s).time = s.time ∧ (followRestart a t s).pins = s.pins ∧
    (followRestart a t s).store = s.store ∧ (followRestart a t s).menuMap = s.menuMap ∧
    (followRestart a t s).handed = s.handed ∧ (followRestart a t s).pending = s.pending := by
  unfold followRestart
  try dsimp only
  (repeat' apply And.intro) <;> simp

@[simp] theorem fetchOrderWord_frame (a : Addr) (w : Word) (s : State) :
    (fetchOrderWord a w s).1.time = s.time ∧ (fetchOrderWord a w s).1.pins = s.pins ∧
    (fetchOrderWord a w s).1.store = s.store ∧ (fetchOrderWord a w s).1.handed = s.handed ∧
    (fetchOrderWord a w s).1.pending = s.pending := by
  unfold fetchOrderWord
  try dsimp only
  (repeat' apply And.intro) <;> (repeat' split) <;> simp

@[simp] theorem fetchOperandWord_frame (p : InProgress) (a : Addr) (w : Word) (s : State) :
    (fetchOperandWord p a w s).1.time = s.time ∧ (fetchOperandWord p a w s).1.pins = s.pins ∧
    (fetchOperandWord p a w s).1.store = s.store ∧ (fetchOperandWord p a w s).1.handed = s.handed ∧
    (fetchOperandWord p a w s).1.pending = s.pending := by
  unfold fetchOperandWord
  try dsimp only
  (repeat' apply And.intro) <;> (repeat' split) <;> simp

@[simp] theorem followFetch_frame (a : Addr) (w : Word) (s : State) :
    (followFetch a w s).1.time = s.time ∧ (followFetch a w s).1.pins = s.pins ∧
    (followFetch a w s).1.store = s.store ∧ (followFetch a w s).1.handed = s.handed ∧
    (followFetch a w s).1.pending = s.pending := by
  unfold followFetch
  try dsimp only
  (repeat' apply And.intro) <;> (repeat' split) <;> simp

@[simp] theorem openText_frame (a : Addr) (c : Nat) (n : Name) (s : State) :
    (openText a c n s).time = s.time ∧ (openText a c n s).pins = s.pins ∧ (openText a c n s).store = s.store ∧
    (openText a c n s).follower = s.follower ∧ (openText a c n s).pass = s.pass ∧
    (openText a c n s).segments = s.segments ∧ (openText a c n s).pen = s.pen ∧
    (openText a c n s).menuMap = s.menuMap ∧ (openText a c n s).gate = s.gate ∧
    (openText a c n s).loft = s.loft ∧ (openText a c n s).tracker = s.tracker ∧
    (openText a c n s).reports = s.reports ∧ (openText a c n s).passage = s.passage ∧
    (openText a c n s).handed = s.handed ∧ (openText a c n s).moment = s.moment ∧
    (openText a c n s).choices = s.choices ∧ (openText a c n s).pending = s.pending := by
  unfold openText
  try dsimp only
  (repeat' apply And.intro) <;> (repeat' split) <;> simp

@[simp] theorem closeText_frame (s : State) :
    (closeText s).time = s.time ∧ (closeText s).pins = s.pins ∧ (closeText s).store = s.store ∧
    (closeText s).follower = s.follower ∧ (closeText s).pass = s.pass ∧ (closeText s).segments = s.segments ∧
    (closeText s).pen = s.pen ∧ (closeText s).menuMap = s.menuMap ∧ (closeText s).gate = s.gate ∧
    (closeText s).loft = s.loft ∧ (closeText s).tracker = s.tracker ∧ (closeText s).reports = s.reports ∧
    (closeText s).passage = s.passage ∧ (closeText s).handed = s.handed ∧ (closeText s).moment = s.moment ∧
    (closeText s).choices = s.choices ∧ (closeText s).pending = s.pending := by
  unfold closeText
  try dsimp only
  (repeat' apply And.intro) <;> simp

@[simp] theorem deliverOperand_frame (c : DecodeContext) (w : Word) (s : State) :
    (deliverOperand c w s).2.time = s.time ∧ (deliverOperand c w s).2.pins = s.pins ∧
    (deliverOperand c w s).2.store = s.store ∧ (deliverOperand c w s).2.follower = s.follower ∧
    (deliverOperand c w s).2.pass = s.pass ∧ (deliverOperand c w s).2.segments = s.segments ∧
    (deliverOperand c w s).2.pen = s.pen ∧ (deliverOperand c w s).2.menuMap = s.menuMap ∧
    (deliverOperand c w s).2.gate = s.gate ∧ (deliverOperand c w s).2.tracker = s.tracker ∧
    (deliverOperand c w s).2.echo = s.echo ∧ (deliverOperand c w s).2.reports = s.reports ∧
    (deliverOperand c w s).2.passage = s.passage ∧ (deliverOperand c w s).2.handed = s.handed ∧
    (deliverOperand c w s).2.moment = s.moment ∧ (deliverOperand c w s).2.choices = s.choices ∧
    (deliverOperand c w s).2.pending = s.pending := by
  unfold deliverOperand
  try dsimp only
  (repeat' apply And.intro) <;> (repeat' split) <;> simp

@[simp] theorem deliverOrderWord_frame (c : DecodeContext) (w : Word) (s : State) :
    (deliverOrderWord c w s).2.time = s.time ∧ (deliverOrderWord c w s).2.pins = s.pins ∧
    (deliverOrderWord c w s).2.store = s.store ∧ (deliverOrderWord c w s).2.follower = s.follower ∧
    (deliverOrderWord c w s).2.pass = s.pass ∧ (deliverOrderWord c w s).2.segments = s.segments ∧
    (deliverOrderWord c w s).2.pen = s.pen ∧ (deliverOrderWord c w s).2.menuMap = s.menuMap ∧
    (deliverOrderWord c w s).2.gate = s.gate ∧ (deliverOrderWord c w s).2.loft = s.loft ∧
    (deliverOrderWord c w s).2.tracker = s.tracker ∧ (deliverOrderWord c w s).2.reports = s.reports ∧
    (deliverOrderWord c w s).2.passage = s.passage ∧ (deliverOrderWord c w s).2.handed = s.handed ∧
    (deliverOrderWord c w s).2.moment = s.moment ∧ (deliverOrderWord c w s).2.choices = s.choices ∧
    (deliverOrderWord c w s).2.pending = s.pending := by
  unfold deliverOrderWord
  try dsimp only
  (repeat' apply And.intro) <;> (repeat' split) <;> simp

@[simp] theorem deliver_frame (c : DecodeContext) (w : Word) (s : State) :
    (deliver c w s).2.time = s.time ∧ (deliver c w s).2.pins = s.pins ∧ (deliver c w s).2.store = s.store ∧
    (deliver c w s).2.follower = s.follower ∧ (deliver c w s).2.pass = s.pass ∧
    (deliver c w s).2.segments = s.segments ∧ (deliver c w s).2.pen = s.pen ∧
    (deliver c w s).2.menuMap = s.menuMap ∧ (deliver c w s).2.gate = s.gate ∧
    (deliver c w s).2.tracker = s.tracker ∧ (deliver c w s).2.reports = s.reports ∧
    (deliver c w s).2.passage = s.passage ∧ (deliver c w s).2.handed = s.handed ∧
    (deliver c w s).2.moment = s.moment ∧ (deliver c w s).2.choices = s.choices ∧
    (deliver c w s).2.pending = s.pending := by
  unfold deliver
  try dsimp only
  (repeat' apply And.intro) <;> (repeat' split) <;> simp

@[simp] theorem setLock_frame (b : Bool) (s : State) :
    (setLock b s).time = s.time ∧ (setLock b s).pins = s.pins ∧ (setLock b s).store = s.store ∧
    (setLock b s).follower = s.follower ∧ (setLock b s).pass = s.pass ∧ (setLock b s).segments = s.segments ∧
    (setLock b s).pen = s.pen ∧ (setLock b s).menuMap = s.menuMap ∧ (setLock b s).gate = s.gate ∧
    (setLock b s).loft = s.loft ∧ (setLock b s).tracker = s.tracker ∧ (setLock b s).echo = s.echo ∧
    (setLock b s).reports = s.reports ∧ (setLock b s).handed = s.handed ∧ (setLock b s).moment = s.moment ∧
    (setLock b s).choices = s.choices ∧ (setLock b s).pending = s.pending := by
  unfold setLock
  try dsimp only
  (repeat' apply And.intro) <;> simp

@[simp] theorem closePair_frame (s : State) :
    (closePair s).time = s.time ∧ (closePair s).pins = s.pins ∧ (closePair s).store = s.store ∧
    (closePair s).follower = s.follower ∧ (closePair s).pass = s.pass ∧ (closePair s).segments = s.segments ∧
    (closePair s).pen = s.pen ∧ (closePair s).menuMap = s.menuMap ∧ (closePair s).gate = s.gate ∧
    (closePair s).loft = s.loft ∧ (closePair s).tracker = s.tracker ∧ (closePair s).echo = s.echo ∧
    (closePair s).reports = s.reports ∧ (closePair s).handed = s.handed ∧ (closePair s).moment = s.moment ∧
    (closePair s).choices = s.choices ∧ (closePair s).pending = s.pending := by
  unfold closePair
  try dsimp only
  (repeat' apply And.intro) <;> simp

@[simp] theorem countPassing_frame (l : List OwnCycle) (s : State) :
    (countPassing l s).time = s.time ∧ (countPassing l s).pins = s.pins ∧ (countPassing l s).store = s.store ∧
    (countPassing l s).follower = s.follower ∧ (countPassing l s).pass = s.pass ∧
    (countPassing l s).segments = s.segments ∧ (countPassing l s).pen = s.pen ∧
    (countPassing l s).menuMap = s.menuMap ∧ (countPassing l s).gate = s.gate ∧
    (countPassing l s).loft = s.loft ∧ (countPassing l s).tracker = s.tracker ∧
    (countPassing l s).echo = s.echo ∧ (countPassing l s).reports = s.reports ∧
    (countPassing l s).handed = s.handed ∧ (countPassing l s).moment = s.moment ∧
    (countPassing l s).choices = s.choices ∧ (countPassing l s).pending = s.pending := by
  unfold countPassing
  try dsimp only
  (repeat' apply And.intro) <;> (repeat' split) <;> simp

@[simp] theorem breakLock_frame (c : BusCycle) (s : State) :
    (breakLock c s).time = s.time ∧ (breakLock c s).pins = s.pins ∧ (breakLock c s).store = s.store ∧
    (breakLock c s).follower = s.follower ∧ (breakLock c s).pass = s.pass ∧
    (breakLock c s).segments = s.segments ∧ (breakLock c s).pen = s.pen ∧ (breakLock c s).menuMap = s.menuMap ∧
    (breakLock c s).gate = s.gate ∧ (breakLock c s).loft = s.loft ∧ (breakLock c s).tracker = s.tracker ∧
    (breakLock c s).echo = s.echo ∧ (breakLock c s).reports = s.reports ∧ (breakLock c s).handed = s.handed ∧
    (breakLock c s).moment = s.moment ∧ (breakLock c s).choices = s.choices ∧
    (breakLock c s).pending = s.pending := by
  unfold breakLock
  try dsimp only
  (repeat' apply And.intro) <;> (repeat' split) <;> simp

@[simp] theorem hold_frame (l : List BusCycle) (s : State) :
    (hold l s).time = s.time ∧ (hold l s).store = s.store ∧ (hold l s).follower = s.follower ∧
    (hold l s).pass = s.pass ∧ (hold l s).segments = s.segments ∧ (hold l s).pen = s.pen ∧
    (hold l s).menuMap = s.menuMap ∧ (hold l s).gate = s.gate ∧ (hold l s).loft = s.loft ∧
    (hold l s).tracker = s.tracker ∧ (hold l s).echo = s.echo ∧ (hold l s).reports = s.reports ∧
    (hold l s).handed = s.handed ∧ (hold l s).moment = s.moment ∧ (hold l s).choices = s.choices ∧
    (hold l s).pending = s.pending := by
  unfold hold
  try dsimp only
  (repeat' apply And.intro) <;> simp

@[simp] theorem markGranted_frame (c : OwnCycle) (s : State) :
    (markGranted c s).time = s.time ∧ (markGranted c s).pins = s.pins ∧ (markGranted c s).store = s.store ∧
    (markGranted c s).follower = s.follower ∧ (markGranted c s).pass = s.pass ∧
    (markGranted c s).segments = s.segments ∧ (markGranted c s).pen = s.pen ∧
    (markGranted c s).menuMap = s.menuMap ∧ (markGranted c s).gate = s.gate ∧ (markGranted c s).loft = s.loft ∧
    (markGranted c s).echo = s.echo ∧ (markGranted c s).reports = s.reports ∧
    (markGranted c s).passage = s.passage ∧ (markGranted c s).handed = s.handed ∧
    (markGranted c s).choices = s.choices ∧ (markGranted c s).pending = s.pending := by
  unfold markGranted
  try dsimp only
  (repeat' apply And.intro) <;> (repeat' split) <;> simp

@[simp] theorem startOwn_frame (c : OwnCycle) (s : State) :
    (startOwn c s).time = s.time ∧ (startOwn c s).store = s.store ∧ (startOwn c s).follower = s.follower ∧
    (startOwn c s).pass = s.pass ∧ (startOwn c s).segments = s.segments ∧ (startOwn c s).pen = s.pen ∧
    (startOwn c s).menuMap = s.menuMap ∧ (startOwn c s).gate = s.gate ∧ (startOwn c s).loft = s.loft ∧
    (startOwn c s).echo = s.echo ∧ (startOwn c s).reports = s.reports ∧ (startOwn c s).handed = s.handed ∧
    (startOwn c s).choices = s.choices ∧ (startOwn c s).pending = s.pending := by
  unfold startOwn
  try dsimp only
  (repeat' apply And.intro) <;> simp

@[simp] theorem grantOwn_frame (s : State) :
    (grantOwn s).time = s.time ∧ (grantOwn s).store = s.store ∧ (grantOwn s).follower = s.follower ∧
    (grantOwn s).pass = s.pass ∧ (grantOwn s).segments = s.segments ∧ (grantOwn s).pen = s.pen ∧
    (grantOwn s).menuMap = s.menuMap ∧ (grantOwn s).gate = s.gate ∧ (grantOwn s).loft = s.loft ∧
    (grantOwn s).echo = s.echo ∧ (grantOwn s).reports = s.reports ∧ (grantOwn s).handed = s.handed ∧
    (grantOwn s).choices = s.choices ∧ (grantOwn s).pending = s.pending := by
  unfold grantOwn
  try dsimp only
  (repeat' apply And.intro) <;> (repeat' split) <;> simp

@[simp] theorem carryDRead_frame (a : Addr) (x y : Coord) (s : State) :
    (carryDRead a x y s).time = s.time ∧ (carryDRead a x y s).store = s.store ∧
    (carryDRead a x y s).handed = s.handed ∧ (carryDRead a x y s).pending = s.pending := by
  unfold carryDRead
  try dsimp only
  (repeat' apply And.intro) <;> (repeat' split) <;> simp

@[simp] theorem carryPRead_frame (a : Addr) (s : State) :
    (carryPRead a s).time = s.time ∧ (carryPRead a s).store = s.store ∧ (carryPRead a s).follower = s.follower ∧
    (carryPRead a s).pass = s.pass ∧ (carryPRead a s).segments = s.segments ∧ (carryPRead a s).pen = s.pen ∧
    (carryPRead a s).menuMap = s.menuMap ∧ (carryPRead a s).gate = s.gate ∧ (carryPRead a s).loft = s.loft ∧
    (carryPRead a s).tracker = s.tracker ∧ (carryPRead a s).echo = s.echo ∧
    (carryPRead a s).reports = s.reports ∧ (carryPRead a s).passage = s.passage ∧
    (carryPRead a s).handed = s.handed ∧ (carryPRead a s).moment = s.moment ∧
    (carryPRead a s).choices = s.choices ∧ (carryPRead a s).pending = s.pending := by
  unfold carryPRead
  try dsimp only
  (repeat' apply And.intro) <;> simp

@[simp] theorem carryPWrite_frame (a : Addr) (d : Word) (s : State) :
    (carryPWrite a d s).time = s.time ∧ (carryPWrite a d s).segments = s.segments ∧
    (carryPWrite a d s).pen = s.pen ∧ (carryPWrite a d s).loft = s.loft ∧ (carryPWrite a d s).echo = s.echo ∧
    (carryPWrite a d s).handed = s.handed ∧ (carryPWrite a d s).moment = s.moment ∧
    (carryPWrite a d s).pending = s.pending := by
  unfold carryPWrite
  try dsimp only
  (repeat' apply And.intro) <;> simp

@[simp] theorem carry_frame (c : BusCycle) (s : State) :
    (carry c s).time = s.time ∧ (carry c s).handed = s.handed ∧ (carry c s).pending = s.pending := by
  unfold carry
  try dsimp only
  (repeat' apply And.intro) <;> (repeat' split) <;> simp

@[simp] theorem serveBus_frame (l : List BusCycle) (s : State) :
    (serveBus l s).time = s.time ∧ (serveBus l s).pending = s.pending := by
  induction l generalizing s with
  | nil => simp [serveBus]
  | cons c l ih => cases c <;> simp only [serveBus] <;> (repeat' split) <;> simp [ih]

@[simp] theorem serveCounting_frame (o : List OwnCycle) (l : List BusCycle) (s : State) :
    (serveCounting o l s).time = s.time ∧ (serveCounting o l s).pending = s.pending := by
  cases l with
  | nil => simp [serveCounting]
  | cons c l => cases c <;> simp only [serveCounting] <;> (repeat' split) <;> simp

@[simp] theorem present_frame (c : BusCycle) (s : State) :
    (present c s).time = s.time ∧ (present c s).pending = s.pending := by
  unfold present
  try dsimp only
  (repeat' apply And.intro) <;> simp

@[simp] theorem freePort_frame (s : State) :
    (freePort s).time = s.time ∧ (freePort s).pending = s.pending := by
  unfold freePort
  try dsimp only
  (repeat' apply And.intro) <;> simp

@[simp] theorem freePortOffering_frame (b : Bool) (s : State) :
    (freePortOffering b s).time = s.time ∧ (freePortOffering b s).pending = s.pending := by
  unfold freePortOffering
  try dsimp only
  (repeat' apply And.intro) <;> (repeat' split) <;> simp

@[simp] theorem freePortWriteOut_frame (s : State) :
    (freePortWriteOut s).time = s.time ∧ (freePortWriteOut s).pending = s.pending := by
  unfold freePortWriteOut
  try dsimp only
  (repeat' apply And.intro) <;> simp

@[simp] theorem consumptionPlaced_frame (a : Addr) (w : Word) (s : State) :
    (consumptionPlaced a w s).time = s.time ∧ (consumptionPlaced a w s).pending = s.pending := by
  unfold consumptionPlaced
  try dsimp only
  (repeat' apply And.intro) <;> simp

@[simp] theorem writeBackPlaced_frame (a : Addr) (w : Word) (s : State) :
    (writeBackPlaced a w s).time = s.time ∧ (writeBackPlaced a w s).pending = s.pending := by
  unfold writeBackPlaced
  try dsimp only
  (repeat' apply And.intro) <;> simp

@[simp] theorem claimCompleted_frame (a : Addr) (s : State) :
    (claimCompleted a s).time = s.time ∧ (claimCompleted a s).pending = s.pending := by
  unfold claimCompleted
  try dsimp only
  (repeat' apply And.intro) <;> simp

@[simp] theorem fillPlaced_frame (a : Addr) (w : Word) (s : State) :
    (fillPlaced a w s).time = s.time ∧ (fillPlaced a w s).pending = s.pending := by
  unfold fillPlaced
  try dsimp only
  (repeat' apply And.intro) <;> simp

@[simp] theorem ownerPlaced_frame (a : Addr) (w : Word) (s : State) :
    (ownerPlaced a w s).time = s.time ∧ (ownerPlaced a w s).pending = s.pending := by
  unfold ownerPlaced
  try dsimp only
  (repeat' apply And.intro) <;> simp

@[simp] theorem finishOwn_frame (s : State) :
    (finishOwn s).time = s.time ∧ (finishOwn s).follower = s.follower ∧ (finishOwn s).pass = s.pass ∧
    (finishOwn s).segments = s.segments ∧ (finishOwn s).pen = s.pen ∧ (finishOwn s).menuMap = s.menuMap ∧
    (finishOwn s).gate = s.gate ∧ (finishOwn s).loft = s.loft ∧ (finishOwn s).tracker = s.tracker ∧
    (finishOwn s).echo = s.echo ∧ (finishOwn s).reports = s.reports ∧ (finishOwn s).passage = s.passage ∧
    (finishOwn s).handed = s.handed ∧ (finishOwn s).moment = s.moment ∧ (finishOwn s).choices = s.choices ∧
    (finishOwn s).pending = s.pending := by
  unfold finishOwn
  try dsimp only
  (repeat' apply And.intro) <;> (repeat' split) <;> simp

@[simp] theorem powerUpState_frame (v : BitVec 4) (s : State) :
    (powerUpState v s).store = s.store ∧ (powerUpState v s).choices = s.choices ∧
    (powerUpState v s).pending = s.pending := by
  (repeat' apply And.intro) <;> rfl

@[simp] theorem initState_frame (v : BitVec 4) (s : State) :
    (initState v s).time = s.time ∧ (initState v s).pins = s.pins ∧ (initState v s).store = s.store ∧
    (initState v s).choices = s.choices ∧ (initState v s).pending = s.pending := by
  (repeat' apply And.intro) <;> rfl

@[simp] theorem foldl_takeEcho_frame (l : List EchoRequest) (s : State) :
    (l.foldl (fun s r => takeEcho r s) s).time = s.time ∧ (l.foldl (fun s r => takeEcho r s) s).pins = s.pins ∧
    (l.foldl (fun s r => takeEcho r s) s).store = s.store ∧
    (l.foldl (fun s r => takeEcho r s) s).follower = s.follower ∧
    (l.foldl (fun s r => takeEcho r s) s).pass = s.pass ∧
    (l.foldl (fun s r => takeEcho r s) s).segments = s.segments ∧
    (l.foldl (fun s r => takeEcho r s) s).pen = s.pen ∧
    (l.foldl (fun s r => takeEcho r s) s).menuMap = s.menuMap ∧
    (l.foldl (fun s r => takeEcho r s) s).gate = s.gate ∧ (l.foldl (fun s r => takeEcho r s) s).loft = s.loft ∧
    (l.foldl (fun s r => takeEcho r s) s).tracker = s.tracker ∧
    (l.foldl (fun s r => takeEcho r s) s).passage = s.passage ∧
    (l.foldl (fun s r => takeEcho r s) s).handed = s.handed ∧
    (l.foldl (fun s r => takeEcho r s) s).choices = s.choices ∧
    (l.foldl (fun s r => takeEcho r s) s).pending = s.pending ∧
    (l.foldl (fun s r => takeEcho r s) s).reports = s.reports := by
  induction l generalizing s with
  | nil => simp
  | cons e l ih => simpa using ih (takeEcho e s)

@[simp] theorem foldl_requestReport_frame (l : List Report) (s : State) :
    (l.foldl (fun s r => requestReport r s) s).time = s.time ∧
    (l.foldl (fun s r => requestReport r s) s).pins = s.pins ∧
    (l.foldl (fun s r => requestReport r s) s).store = s.store ∧
    (l.foldl (fun s r => requestReport r s) s).follower = s.follower ∧
    (l.foldl (fun s r => requestReport r s) s).pass = s.pass ∧
    (l.foldl (fun s r => requestReport r s) s).segments = s.segments ∧
    (l.foldl (fun s r => requestReport r s) s).pen = s.pen ∧
    (l.foldl (fun s r => requestReport r s) s).menuMap = s.menuMap ∧
    (l.foldl (fun s r => requestReport r s) s).gate = s.gate ∧
    (l.foldl (fun s r => requestReport r s) s).loft = s.loft ∧
    (l.foldl (fun s r => requestReport r s) s).tracker = s.tracker ∧
    (l.foldl (fun s r => requestReport r s) s).passage = s.passage ∧
    (l.foldl (fun s r => requestReport r s) s).handed = s.handed ∧
    (l.foldl (fun s r => requestReport r s) s).choices = s.choices ∧
    (l.foldl (fun s r => requestReport r s) s).pending = s.pending ∧
    (l.foldl (fun s r => requestReport r s) s).echo = s.echo := by
  induction l generalizing s with
  | nil => simp
  | cons e l ih => simpa using ih (requestReport e s)

@[simp] theorem takeRequests_frame (m : Moment) (s : State) :
    (takeRequests m s).time = s.time ∧ (takeRequests m s).pins = s.pins ∧ (takeRequests m s).store = s.store ∧
    (takeRequests m s).follower = s.follower ∧ (takeRequests m s).pass = s.pass ∧
    (takeRequests m s).segments = s.segments ∧ (takeRequests m s).pen = s.pen ∧
    (takeRequests m s).menuMap = s.menuMap ∧ (takeRequests m s).gate = s.gate ∧
    (takeRequests m s).loft = s.loft ∧ (takeRequests m s).tracker = s.tracker ∧
    (takeRequests m s).passage = s.passage ∧ (takeRequests m s).handed = s.handed ∧
    (takeRequests m s).choices = s.choices ∧ (takeRequests m s).pending = s.pending := by
  unfold takeRequests
  simp

@[simp] theorem initAmongRequests_frame (v : BitVec 4) (s : State) :
    (initAmongRequests v s).time = s.time ∧ (initAmongRequests v s).pins = s.pins ∧
    (initAmongRequests v s).store = s.store ∧ (initAmongRequests v s).pending = s.pending := by
  unfold initAmongRequests
  split <;> simp

@[simp] theorem serveAfterInit_frame (s : State) :
    (serveAfterInit s).time = s.time ∧ (serveAfterInit s).pending = s.pending := by
  unfold serveAfterInit
  split_ifs <;> simp

@[simp] theorem initPart_frame (v : BitVec 4) (s : State) :
    (initPart v s).time = s.time ∧ (initPart v s).pending = s.pending := by
  unfold initPart
  try dsimp only
  (repeat' apply And.intro) <;> simp

@[simp] theorem endPowerUpReset_frame (s : State) :
    (endPowerUpReset s).time = s.time ∧ (endPowerUpReset s).pending = s.pending := by
  unfold endPowerUpReset
  try dsimp only
  (repeat' apply And.intro) <;> simp

end Sys2Proof.Machine
end

