-- ==== Sys2Proof/Laws/Bus.lean ====
section
/-! SUPPORT. One bus cycle presented: when it is granted at once, and what serving it is. -/

namespace Sys2Proof.Machine

@[simp] theorem breakLock_fairShare (c : BusCycle) (s : State) :
    (breakLock c s).passage.fairShare = s.passage.fairShare := by
  cases c <;> rfl

@[simp] theorem breakLock_notices (c : BusCycle) (s : State) :
    (breakLock c s).passage.notices = s.passage.notices := by
  cases c <;> rfl

/-- The requests do not depend on the passage. -/
@[simp] theorem ownRequests_setPassage (x : Passage) (s : State) :
    ownRequests (s.setPassage x) = ownRequests s := rfl

@[simp] theorem ownRequests_breakLock (c : BusCycle) (s : State) :
    ownRequests (breakLock c s) = ownRequests s := by
  cases c <;> rfl

theorem PortOpen.portFree {s : State} (h : PortOpen s) : portFree s = true := by
  simp [Machine.portFree, h.1, h.2.1]

/-- A granted passing cycle is no own request's turn. -/
theorem PassingGranted.no_turn {s : State} (c : BusCycle) (h : PassingGranted s) :
    ownTurn (breakLock c s) = false := by
  unfold ownTurn
  rw [ownRequests_breakLock, breakLock_fairShare]
  rcases h.2 with h | h
  · simp [show ¬8 ≤ s.passage.fairShare by omega]
  · simp [h]

/-- While the lock is held no own request has its turn (R160, R165). -/
theorem no_turn_of_lock {s : State} (h : s.passage.lockHeld = true) : ownTurn s = false := by
  simp [ownTurn, ownMayBeGranted, h]

/-- The fair-share count at a passing grant (R166). -/
theorem countPassing_ownRequests (s : State) :
    countPassing (ownRequests s) s =
      s.setPassage { s.passage with fairShare := countAfterPassing s } := by
  unfold countPassing countAfterPassing
  split_ifs <;> rfl

/-- A cycle other than an idle one, presented at a free port with none waiting: some of what is still to
be taken is taken, and then it is passed over for an own request or carried (R162, R165). -/
theorem present_open {c : BusCycle} {s : State} (hc : c ≠ .idle) (h : PortOpen s) :
    present c s = (let t := meet (breakLock c s)
      if ownTurn t then hold [c] (grantOwn t) else hold [] (carry c (countPassing (ownRequests t) t))) := by
  have hp := h.portFree
  unfold present
  rw [h.2.2, List.nil_append]
  cases c <;> simp_all [serveBus]

/-- A cycle other than an idle one, presented to a free bus when no own request has its turn, is carried at
once. -/
theorem present_carried {c : BusCycle} {s : State} (hc : c ≠ .idle) (h : BusFree s)
    (ht : ownTurn (breakLock c s) = false) :
    present c s = hold [] (carry c ((breakLock c s).setPassage
      { (breakLock c s).passage with fairShare := countAfterPassing s })) := by
  have hn : countAfterPassing (breakLock c s) = countAfterPassing s := by
    simp [countAfterPassing]
  rw [← hn, ← countPassing_ownRequests, present_open hc h.1, meet_none ((breakLock_notices c s).trans h.2.1)
    (by simpa using h.2.2)]
  simp [ht]

/-- A granted passing cycle is carried at once. -/
theorem PassingGranted.present_carried {c : BusCycle} {s : State} (h : PassingGranted s) (hc : c ≠ .idle) :
    present c s = hold [] (carry c ((breakLock c s).setPassage
      { (breakLock c s).passage with fairShare := countAfterPassing s })) :=
  Machine.present_carried hc h.1 (h.no_turn c)

/-- A cycle presented at a busy port is held behind those already waiting. -/
theorem present_held {c : BusCycle} {s : State} (hc : c ≠ .idle) (hp : portFree s = false)
    (hh : s.passage.held = []) : present c s = hold [c] s := by
  unfold present
  rw [hh, List.nil_append]
  cases c <;> simp_all [serveBus]

end Sys2Proof.Machine
end

