-- ==== Sys2Proof/Laws/Kept.lean ====
section
/-! SUPPORT. The induction over a step, packaged once: what every operation on one of the nine data blocks
keeps, every step keeps. -/

namespace Sys2Proof.Machine

/-- Two states with the same store, Pass Decoder, Segment Table, Menu Map, Gate Unit, Loft Arithmetic Unit,
Tracking Unit, Echo Unit and Report Writer. -/
def SameBlocks (s t : State) : Prop :=
  t.store = s.store ∧ t.pass = s.pass ∧ t.segments = s.segments ∧ t.menuMap = s.menuMap ∧
  t.gate = s.gate ∧ t.loft = s.loft ∧ t.tracker = s.tracker ∧ t.echo = s.echo ∧ t.reports = s.reports

/-- A property of the nine data blocks that each operation on one of them keeps. -/
structure Kept (P : State → Prop) : Prop where
  plain : ∀ {s t}, SameBlocks s t → P s → P t
  arrayWrite : ∀ {s} a w, P s → P (arrayWrite a w s)
  refuseProtected : ∀ {s} a, P s → P (refuseProtected a s)
  passFrameEnd : ∀ {s}, P s → P (passFrameEnd s)
  listCommand : ∀ {s} a e, s.pass.consumption.any (fun c => c.addr == a) = false →
    s.pass.consumption.length < 4 → P s → P (listCommand a e s)
  passNotice : ∀ {s} a, P s → P (passNotice a s)
  consumptionAnswered : ∀ {s} a, P s → P (consumptionAnswered a s)
  passName : ∀ {s} p, P s → P (passName p s)
  passSegment : ∀ {s} p ws a, P s → P (passSegment p ws a s)
  passReadout : ∀ {s} p ws, P s → P (passReadout p ws s)
  markDrop : ∀ {s} n, P s → P (markDrop n s)
  markAllDropped : ∀ {s}, P s → P (markAllDropped s)
  segmentsFrameEnd : ∀ {s}, P s → P (segmentsFrameEnd s)
  menuStart : ∀ {s} a n c g, 1 ≤ c → c ≤ 255 → P s →
    P (s.setMenuMap (menuStart (MenuEntry.start a n c g) s.menuMap))
  menuOperand : ∀ {s} a j w, P s → P (s.setMenuMap (menuOperand a j w s.menuMap))
  menuInvalidate : ∀ {s} a, P s → P (s.setMenuMap (menuInvalidate a s.menuMap))
  gateWinner : ∀ {s} w, P s → P (gateWinner w s)
  closeDeciding : ∀ {s} b, P s → P (closeDeciding b s)
  closeGate : ∀ {s}, P s → P (closeGate s)
  openGate : ∀ {s}, P s → P (openGate s)
  gateFrameEnd : ∀ {s}, P s → P (gateFrameEnd s)
  gateInvalidated : ∀ {s} a, P s → P (gateInvalidated a s)
  passGate : ∀ {s} ws, P s → P (passGate ws s)
  closeByLength : ∀ {s}, P s → P (closeByLength s)
  dwellReport : ∀ {s}, P s → P (dwellReport s)
  passView : ∀ {s} p ws, P s → P (passView p ws s)
  passGrid : ∀ {s} ws, P s → P (passGrid ws s)
  loftFrameEnd : ∀ {s}, P s → P (loftFrameEnd s)
  readout : ∀ {s} part a n j, P s →
    P (s.setLoft { s.loft with readout := some (readoutFor part a n j s) })
  trackMove : ∀ {s} a w n, P s → P (trackMove a w n s)
  trackNotice : ∀ {s} a, P s → P (trackNotice a s)
  trackSighting : ∀ {s}, P s → P (trackSighting s)
  trackCross : ∀ {s} x y, P s → P (trackCross x y s)
  tipStart : ∀ {s} p, tipStart s.tracker = some p → P s → P (beginRun p s)
  startTrack : ∀ {s} ws p, startTrackPosition ws s = .ok p → P s → P (beginRun p s)
  endRun : ∀ {s} r, P s → P (endRun r s)
  trackFrameEnd : ∀ {s} v, P s → P (trackFrameEnd v s)
  passTrack : ∀ {s} p ws, P s → P (passTrack p ws s)
  goLost : ∀ {s} v, P s → P (goLost v s)
  writeBackAnswered : ∀ {s}, P s → P (writeBackAnswered s)
  markGranted : ∀ {s} c, P s → P (markGranted c s)
  openText : ∀ {s} a c n, P s → P (openText a c n s)
  closeText : ∀ {s}, P s → P (closeText s)
  echoDropped : ∀ {s} l, P s → P (echoDropped l s)
  echoFrameEnd : ∀ {s}, P s → P (echoFrameEnd s)
  echoClear : ∀ {s}, P s → P (echoClear s)
  itemEchoRunOut : ∀ {s}, P s → P (itemEchoRunOut s)
  echoPick : ∀ {s} n, P s → P (echoPick n s)
  echoItem : ∀ {s} d, P s → P (echoItem d s)
  requestReport : ∀ {s} r, P s → P (requestReport r s)
  reportsFrameEnd : ∀ {s}, P s → P (reportsFrameEnd s)
  reportsNotice : ∀ {s} a d, P s → P (reportsNotice a d s)
  claimAnswered : ∀ {s} a w, P s → P (claimAnswered a w s)
  fillAnswered : ∀ {s}, P s → P (fillAnswered s)
  ownerAnswered : ∀ {s}, P s → P (ownerAnswered s)
  passRing : ∀ {s} ws a, P s → P (passRing ws a s)
  powerUp : ∀ {s} v, P s → P (powerUpState v s)
  init : ∀ {s} v, P s → P (initState v s)

namespace Kept

variable {P : State → Prop}

theorem ite {c : Prop} [Decidable c] {a b : State} (ha : P a) (hb : P b) : P (if c then a else b) := by
  split <;> assumption

variable (K : Kept P)
include K

/-! ### PASS orders -/

theorem actOnCommand {s : State} (p : BitVec 12) (ws : List Word) (a : Addr) (h : P s) :
    P (actOnCommand p ws a s) := by
  unfold Machine.actOnCommand
  split
  · rename_i t ht
    rcases commandEffect_cases ht with ⟨q, hq, rfl⟩ | ⟨_, rfl⟩ | rfl | rfl | ⟨n, _, rfl⟩ | rfl | rfl
    · exact K.startTrack ws q hq h
    · exact K.endRun _ h
    · exact K.closeGate h
    · exact K.echoClear h
    · exact K.markDrop n h
    · exact K.markAllDropped h
    · exact K.requestReport _ h
  · exact K.requestReport _ h

theorem passCommand {s : State} (p : BitVec 12) (e : Nat) (ws : List Word) (a : Addr) (h : P s) :
    P (passCommand p e ws a s) := by
  unfold Machine.passCommand
  split_ifs with h₁ h₂
  · exact h
  · exact h
  · exact K.listCommand a e (by simpa using h₁) (by simpa using h₂) (K.actOnCommand p ws a h)

theorem handOff {s : State} (a : Addr) (e t : Nat) (p : BitVec 12) (ws : List Word) (h : P s) :
    P (handOff a e t p ws s) := by
  unfold Machine.handOff
  split
  · unfold passOpen
    split
    · exact K.passName p h
    · exact K.passSegment p ws a h
    · exact K.passReadout p ws h
    · exact K.passView p ws h
    · exact K.passGrid ws h
    · exact K.passGate ws h
    · exact K.passTrack p ws h
    · exact K.passCommand p e ws a h
    · exact h
  · split_ifs
    · unfold passSystem
      split
      · exact K.passRing ws a h
      · exact K.plain (by simp [SameBlocks]) h
      · exact K.plain (by simp [SameBlocks]) h
      · exact h
    · exact K.refuseProtected a h
  · exact h

theorem completeOrder {s : State} (a : Addr) (o : Order) (ws : List Word) (l : Addr) (h : P s) :
    P (completeOrder a o ws l s) := by
  have key : P (applyOrder a o ws s) := by
    unfold applyOrder
    split
    · exact K.handOff _ _ _ _ _ (Kept.ite (K.plain (by simp [SameBlocks]) h) h)
    · exact h
  unfold Machine.completeOrder
  dsimp only
  split <;> exact K.plain (by simp [SameBlocks]) key

/-! ### Frame ends -/

theorem frameEndAt {s : State} (x : FrameFacts) (e : FrameTaker) (h : P s) : P (frameEndAt x s e) := by
  unfold Machine.frameEndAt
  split
  · split
    · exact K.requestReport _ h
    · exact h
  · exact K.echoDropped _ h
  · exact K.gateFrameEnd h
  · exact K.trackFrameEnd _ h
  · exact K.echoFrameEnd h
  · exact K.reportsFrameEnd h

theorem frameEnd {s : State} (a : Addr) (h : P s) : P (frameEnd a s) := by
  unfold Machine.frameEnd frameEndIn
  have hq : P (frameEndQuiet (afterDraw s)) := by
    have h₁ := K.passFrameEnd (K.plain (s := s)
      (t := (afterDraw s).setFollower ((afterDraw s).follower.frameEnd (afterDraw s).time))
      (by simp [SameBlocks]) h)
    exact K.segmentsFrameEnd (K.loftFrameEnd (K.plain (by simp [SameBlocks]) h₁))
  generalize permute (drawn s) frameTakers = l
  generalize frameEndQuiet (afterDraw s) = t at hq
  induction l generalizing t with
  | nil => exact hq
  | cons e l ih => exact ih _ (K.frameEndAt _ e hq)

/-! ### Fetches -/

theorem enterLost {s : State} (c : Condition) (a : Addr) (h : P s) : P (enterLost c a s) := by
  unfold Machine.enterLost
  exact K.requestReport _ (K.plain (by simp [SameBlocks]) h)

theorem searchFetch {s : State} (w : Word) (h : P s) : P (searchFetch w s) :=
  K.plain (by simp [SameBlocks]) h

theorem resyncAt {s : State} (a : Addr) (h : P s) : P (resyncAt a s) :=
  K.frameEnd a (K.plain (by simp [SameBlocks]) h)

theorem handOrderWord {s : State} (a : Addr) (w x : Word) (h : P s) :
    P (handOrderWord a w (decodeOrder x) s) := by
  unfold Machine.handOrderWord
  split
  · exact K.trackMove _ _ _ h
  · rename_i size n ho
    split_ifs with hm
    · have h₁ : n ≠ 0 := by
        rintro rfl
        simp [menuNow, ho] at hm
      exact K.menuStart _ _ n _ (by omega) (decodeOrder_text ho) h
    · exact h
  · exact h

theorem fetchOrderWord {s : State} (a : Addr) (w : Word) (h : P s) : P (fetchOrderWord a w s).1 := by
  unfold Machine.fetchOrderWord
  dsimp only
  split
  · exact K.frameEnd a (K.plain (by simp [SameBlocks]) h)
  · split
    · split
      · exact K.enterLost _ a h
      · exact K.plain (by simp [SameBlocks]) h
    · unfold followOrder
      have hh := K.handOrderWord (s := recordVisible a (decodeOrder w) s) a w w
        (K.plain (by simp [SameBlocks]) h)
      dsimp only
      split_ifs
      · exact K.completeOrder _ _ _ _ hh
      · exact K.plain (by simp [SameBlocks]) hh

theorem fetchOperandWord {s : State} (p : InProgress) (a : Addr) (w : Word) (h : P s) :
    P (fetchOperandWord p a w s).1 := by
  have hh : P (handOperand p w (recordChars p s)) := by
    unfold handOperand
    split_ifs
    · exact K.menuOperand _ _ _ (K.plain (by simp [SameBlocks]) h)
    · exact K.plain (by simp [SameBlocks]) h
  unfold Machine.fetchOperandWord
  dsimp only
  split_ifs
  · exact K.completeOrder _ _ _ _ (K.plain (by simp [SameBlocks]) hh)
  · exact K.plain (by simp [SameBlocks]) hh

theorem followFetch {s : State} (a : Addr) (w : Word) (h : P s) : P (followFetch a w s).1 := by
  unfold Machine.followFetch
  split
  · split_ifs
    · split
      · exact K.fetchOrderWord a w h
      · exact K.fetchOperandWord _ a w h
    · exact K.searchFetch w (K.enterLost _ a h)
  · split_ifs
    · exact K.fetchOrderWord a w (K.resyncAt a h)
    · exact K.searchFetch w h
  · split_ifs
    · exact K.fetchOrderWord a w (K.resyncAt a h)
    · exact K.searchFetch w h

theorem deliver {s : State} (c : DecodeContext) (w : Word) (h : P s) : P (deliver c w s).2 := by
  unfold Machine.deliver
  split_ifs
  · unfold deliverOrderWord
    split
    · exact K.openText _ _ _ h
    · exact K.closeText h
    · exact K.closeText h
    · exact K.closeText h
  · split
    · unfold deliverOperand
      split
      · exact h
      · split_ifs
        · exact h
        · exact K.readout _ _ _ _ h
        · exact h
    · exact h
  · exact h

/-! ### Notices and passing cycles -/

/-- What the operations on the data blocks keep, the taking of each strike result keeps. -/
theorem resultKept : ResultKept P where
  handed := fun _ h => K.plain (by simp [SameBlocks]) h
  draw := fun h => K.plain (by simp [SameBlocks]) h
  winner := K.gateWinner
  cross := K.trackCross
  sighting := K.trackSighting

/-- What the operations on the data blocks keep, the handling of each notice keeps. -/
theorem noticeKept : NoticeKept P where
  notices := fun _ h => K.plain (by simp [SameBlocks]) h
  lock := fun _ _ h => K.plain (by simp [SameBlocks]) h
  draw := fun h => K.plain (by simp [SameBlocks]) h
  follower := fun a h => K.plain (by simp [SameBlocks]) h
  menuMap := K.menuInvalidate
  gate := K.gateInvalidated
  pass := K.passNotice
  tracker := K.trackNotice
  reports := K.reportsNotice

theorem giveNotice {s : State} (a : Addr) (d : Word) (h : P s) : P (giveNotice a d s) := K.noticeKept.giveNotice a d h

theorem meetNotices {s : State} (h : P s) : P (meetNotices s) := K.noticeKept.meetNotices h

theorem settleNotices {s : State} (h : P s) : P (settleNotices s) := K.noticeKept.settleNotices h

theorem meetResults {s : State} (h : P s) : P (meetResults s) := K.resultKept.meetResults h

theorem meet {s : State} (h : P s) : P (meet s) := K.meetResults (K.meetNotices h)

theorem carry {s : State} (c : BusCycle) (h : P s) : P (carry c s) := by
  cases c with
  | dRead a x y =>
    have hf := K.followFetch a (s.word a) (s := arrayRead a (presentBeam x y s))
      (K.plain (by simp [SameBlocks]) h)
    have hd := K.deliver (Machine.followFetch a (s.word a) (arrayRead a (presentBeam x y s))).2 (s.word a) hf
    exact K.plain (by unfold SameBlocks Machine.carry carryDRead; dsimp only; split <;> simp) hd
  | pRead a => exact K.plain (by simp [SameBlocks, Machine.carry]) h
  | pWrite a d => exact K.giveNotice a d (K.arrayWrite a d h)
  | lockedPRead a => exact K.plain (by simp [SameBlocks, Machine.carry]) h
  | lockedPWrite a d =>
    exact K.giveNotice a d (K.arrayWrite a d (K.plain (t := closePair _) (by simp [SameBlocks]) h))
  | idle => exact h

/-! ### The arbiter -/

theorem startOwn {s : State} (c : OwnCycle) (h : P s) : P (startOwn c s) :=
  K.plain (s := Machine.markGranted c s) (by simp [SameBlocks, Machine.startOwn]) (K.markGranted c h)

theorem grantOwn {s : State} (h : P s) : P (grantOwn s) := by
  unfold Machine.grantOwn
  split
  · exact h
  · exact K.startOwn _ h

theorem serveBus {s : State} (l : List BusCycle) (h : P s) : P (serveBus l s) := by
  induction l generalizing s with
  | nil => exact K.plain (by simp [SameBlocks, Machine.serveBus]) h
  | cons c l ih =>
    have hb : P (Machine.meet (breakLock c s)) := K.meet (K.plain (by simp [SameBlocks]) h)
    generalize ht : Machine.meet (breakLock c s) = t at hb
    have hc : P (Machine.serveBus l (Machine.carry c (countPassing (ownRequests t) t))) :=
      ih (K.carry c (K.plain (by simp [SameBlocks]) hb))
    have hg : P (hold (c :: l) (Machine.grantOwn t)) := K.plain (by simp [SameBlocks]) (K.grantOwn hb)
    have hh : P (hold (c :: l) s) := K.plain (by simp [SameBlocks]) h
    cases c with
    | idle => exact ih (K.plain (by simp [SameBlocks]) h)
    | _ => unfold Machine.serveBus; rw [ht]; dsimp only; split_ifs <;> assumption

theorem serveCounting {s : State} (o : List OwnCycle) (l : List BusCycle) (h : P s) :
    P (serveCounting o l s) := by
  cases l with
  | nil => exact K.serveBus _ h
  | cons c l =>
    have hc : P (Machine.serveBus l (Machine.carry c (Machine.meetResults (countPassing o (breakLock c s))))) :=
      K.serveBus l (K.carry c (K.meetResults (K.plain (by simp [SameBlocks]) h)))
    have hh : P (hold (c :: l) s) := K.plain (by simp [SameBlocks]) h
    cases c with
    | idle => exact K.serveBus _ h
    | _ => unfold Machine.serveCounting; dsimp only; split_ifs <;> assumption

theorem freePort {s : State} (h : P s) : P (freePort s) :=
  K.serveCounting _ _ (K.plain (by simp [SameBlocks]) h)

theorem freePortWriteOut {s : State} (h : P s) : P (freePortWriteOut s) :=
  K.serveCounting _ _ (K.plain (by simp [SameBlocks]) h)

/-! ### The pen -/

theorem attributeStrike {s : State} (x y : Coord) (h : P s) : P (attributeStrike x y s) :=
  K.plain (by simp [SameBlocks]) h

theorem judgePulse {s : State} (h : P s) : P (judgePulse s) := by
  unfold Machine.judgePulse
  split_ifs
  · exact K.meetResults (K.attributeStrike _ _ (K.plain (by simp [SameBlocks]) h))
  · exact h

theorem pulse {s : State} (h : P s) : P (pulse s) := by
  have hd : P (afterDraw s) := K.plain (by simp [SameBlocks]) h
  rcases pulse_cases s with ⟨_, hp⟩ | ⟨_, first, hp⟩
  · exact hp ▸ K.judgePulse h
  · rw [hp]
    unfold pulseMeeting
    split_ifs
    · exact K.judgePulse hd
    · exact K.judgePulse (K.plain (by simp [SameBlocks]) hd)

theorem photoChange {s : State} (h : P s) : P (photoChange s) := by
  unfold Machine.photoChange
  refine Kept.ite (K.pulse ?_) ?_ <;> exact K.plain (by simp [SameBlocks]) h

theorem repetitionExpires {s : State} (h : P s) : P (repetitionExpires s) :=
  K.pulse (K.plain (by simp [SameBlocks]) h)

theorem tipDown {s : State} (h : P s) : P (tipDown s) := by
  unfold Machine.tipDown
  split
  · exact K.tipStart _ ‹_› h
  · exact K.openGate h

theorem tipUp {s : State} (h : P s) : P (tipUp s) := by
  unfold Machine.tipUp tipUpIn
  have hd : P (afterDraw s) := K.plain (by simp [SameBlocks]) h
  generalize permute (drawn s) [EventTaker.gate, EventTaker.tracker] = l
  generalize afterDraw s = t at hd
  induction l generalizing t with
  | nil => exact hd
  | cons e l ih =>
    refine ih _ ?_
    cases e
    · exact hd
    · exact K.closeDeciding _ hd
    · exact K.endRun _ hd

theorem debounceExpires {s : State} (h : P s) : P (debounceExpires s) := by
  unfold Machine.debounceExpires
  split
  · exact K.tipDown (K.plain (by simp [SameBlocks]) h)
  · exact K.tipUp (K.plain (by simp [SameBlocks]) h)

theorem timeoutExpires {s : State} (h : P s) : P (timeoutExpires s) := by
  unfold Machine.timeoutExpires timeoutExpiresIn
  have hd : P (stopDisplay (afterDraw s)) := K.plain (by simp [SameBlocks]) h
  generalize permute (drawn s) [EventTaker.follower, EventTaker.gate, EventTaker.tracker] = l
  generalize stopDisplay (afterDraw s) = t at hd
  induction l generalizing t with
  | nil => exact hd
  | cons e l ih =>
    refine ih _ ?_
    cases e
    · exact K.requestReport _ hd
    · exact K.closeDeciding _ hd
    · exact K.endRun _ hd

/-! ### Resets -/

theorem finishOwn {s : State} (h : P s) : P (finishOwn s) := by
  unfold Machine.finishOwn
  split
  · exact h
  · exact K.plain (by simp [SameBlocks]) h
  all_goals exact K.arrayWrite _ _ h

theorem takeRequests {s : State} (m : Moment) (h : P s) : P (takeRequests m s) := by
  have echoes : ∀ (l : List EchoRequest) {s : State}, P s → P (l.foldl (fun s r => takeEcho r s) s) := by
    intro l
    induction l with
    | nil => exact fun h => h
    | cons r l ih =>
      intro s h
      refine ih ?_
      cases r
      · exact K.echoPick _ h
      · exact K.echoItem _ h
  have reports : ∀ (l : List Report) {s : State}, P s → P (l.foldl (fun s r => Machine.requestReport r s) s) := by
    intro l
    induction l with
    | nil => exact fun h => h
    | cons r l ih => exact fun h => ih (K.requestReport _ h)
  exact reports _ (echoes _ h)

theorem initAmongRequests {s : State} (v : BitVec 4) (h : P s) : P (initAmongRequests v s) :=
  Kept.ite (K.init v h) (K.takeRequests _ (K.plain (by simp [SameBlocks]) (K.init v h)))

theorem serveAfterInit {s : State} (h : P s) : P (serveAfterInit s) :=
  Kept.ite (K.serveBus _ h) (K.serveCounting _ _ (K.plain (by simp [SameBlocks]) h))

theorem initPart {s : State} (v : BitVec 4) (h : P s) : P (initPart v s) :=
  K.serveAfterInit (K.initAmongRequests v (K.finishOwn h))

theorem endPowerUpReset {s : State} (h : P s) : P (endPowerUpReset s) :=
  K.serveBus _ (K.plain (by simp [SameBlocks]) h)

/-! ### Commands and steps -/

theorem exec {s t : State} (c : Instr) (h : P s) (ht : exec c s = .next t) : P t := by
  have hp : ∀ c, P (present c s) := fun c => K.serveBus _ h
  cases c with
  | powerUp v => cases ht; exact K.powerUp v h
  | busInit v => cases ht; exact K.initPart v (K.meet h)
  | dRead a x y => cases ht; exact hp _
  | pRead a => cases ht; exact hp _
  | pWrite a d => cases ht; exact hp _
  | lockedPRead a => cases ht; exact hp _
  | lockedPWrite a d => cases ht; exact hp _
  | idleCycle => cases ht; exact hp _
  | ownCycleGrant =>
    cases ht
    refine Kept.ite ?_ ?_
    · exact K.grantOwn (K.settleNotices h)
    · exact h
  | consumptionWritePlaced =>
    cases ht
    split
    · exact K.freePort (K.consumptionAnswered _ (K.arrayWrite _ _ h))
    · exact h
  | writeBackPlaced =>
    cases ht
    split
    · exact K.freePort (K.writeBackAnswered (K.arrayWrite _ _ h))
    · exact h
  | claimReadComplete =>
    cases ht
    split
    · exact K.freePortWriteOut (K.claimAnswered _ _ (K.plain (by simp [SameBlocks]) h))
    · exact h
  | fillWritePlaced =>
    cases ht
    split
    · exact K.freePortWriteOut (K.fillAnswered (K.arrayWrite _ _ h))
    · exact h
  | ownerWordWritePlaced =>
    cases ht
    split
    · exact K.freePortWriteOut (K.ownerAnswered (K.arrayWrite _ _ h))
    · exact h
  | photoEdge x y => cases ht; exact K.photoChange (K.plain (by simp [SameBlocks]) (K.meet h))
  | repetitionIntervalExpiry x y =>
    cases ht
    refine Kept.ite ?_ ?_
    · exact K.repetitionExpires (K.plain (by simp [SameBlocks]) (K.meet h))
    · exact K.plain (by simp [SameBlocks]) h
  | lastStrikeRecordDiscard =>
    cases ht
    refine Kept.ite ?_ ?_
    · exact K.plain (by simp [SameBlocks]) h
    · exact h
  | pinhChange => cases ht; exact K.plain (by simp [SameBlocks]) h
  | tipChange => cases ht; exact K.plain (by simp [SameBlocks]) h
  | debounceExpiry =>
    cases ht
    refine Kept.ite ?_ ?_
    · exact K.debounceExpires (K.meet h)
    · exact h
  | frameTimeoutExpiry =>
    cases ht
    refine Kept.ite ?_ ?_
    · exact K.timeoutExpires (K.meet h)
    · exact h
  | gateCloseByLength => cases ht; exact Kept.ite (K.closeByLength (K.meet h)) h
  | dwellReport => cases ht; exact Kept.ite (K.dwellReport (K.meet h)) h
  | trackLost => cases ht; exact Kept.ite (K.goLost _ (K.meet h)) h
  | itemEchoExpiry => cases ht; exact K.itemEchoRunOut h
  | powerUpResetEnd =>
    cases ht
    refine Kept.ite ?_ ?_
    · exact K.endPowerUpReset h
    · exact h

theorem tick {s : State} (h : P s) : P (tick s) := 
  K.plain (by simp [SameBlocks, Machine.tick]) (K.resultKept.takeEarlierResults (K.settleNotices h))

theorem idle {s : State} (h : P s) : P (idle s) := by
  unfold Machine.idle
  have hm := K.meet h
  generalize Machine.meet s = s at hm
  dsimp only
  split
  · exact K.tick hm
  · have hd : P (afterDraw s) := K.plain (by simp [SameBlocks]) hm
    unfold idleIn
    split
    · rename_i e _ _
      cases e
      · exact K.repetitionExpires hd
      · exact K.plain (by simp [SameBlocks, takeDue]) hd
      · exact K.debounceExpires hd
      · exact K.timeoutExpires hd
      · exact K.grantOwn hd
    · exact K.tick hd

/-- What every operation on the data blocks keeps, every step keeps. -/
theorem step {s t : State} (h : P s) (ht : step s = .next t) : P t := by
  unfold Machine.step at ht
  split at ht
  · exact K.exec _ (K.plain (by simp [SameBlocks]) h) ht
  · cases ht
    exact K.idle h

end Kept

end Sys2Proof.Machine
end

