-- ==== Sys2Proof/WellFormed.lean ====
section
/-! DEFINITION. Well-formed commands. Every operand is a bit vector of the width the manual gives the pins it
stands for (00_scope.md, signal list), so that the types already hold every range check: "every address from
0 to 262,143 is a store address, so no presented address is refused" (R157). The predicate therefore has no
check that could fail; it names every constructor, so that a new one cannot slip past. -/

namespace Sys2Proof

/-- Whether a command could be presented to the part. -/
def Instr.wellFormed : Instr → Bool
  | .powerUp _ | .busInit _ | .dRead _ _ _ | .pRead _ | .pWrite _ _ | .lockedPRead _
  | .lockedPWrite _ _ | .idleCycle | .ownCycleGrant | .consumptionWritePlaced | .writeBackPlaced
  | .claimReadComplete | .fillWritePlaced | .ownerWordWritePlaced | .photoEdge _ _
  | .repetitionIntervalExpiry _ _ | .lastStrikeRecordDiscard | .pinhChange | .tipChange
  | .debounceExpiry | .frameTimeoutExpiry | .gateCloseByLength | .dwellReport | .trackLost
  | .itemEchoExpiry | .powerUpResetEnd => true

end Sys2Proof
end

