-- ==== Sys2Proof/Laws/PerInstr.lean ====
section
/-! SUPPORT. Per-command lemmas: every command the bus, the pins or the array can present is well formed, since its
operands are bit vectors of the widths the signal list gives (00_scope.md). -/

namespace Sys2Proof.Laws.WellFormed

/-- The command is well formed. -/
def Statement (i : Instr) : Prop := i.wellFormed = true

theorem powerUp (straps : BitVec 4) :
    Statement (.powerUp straps) := rfl
theorem busInit (straps : BitVec 4) :
    Statement (.busInit straps) := rfl
theorem dRead (ba : Addr) (defx defy : Coord) :
    Statement (.dRead ba defx defy) := rfl
theorem pRead (ba : Addr) :
    Statement (.pRead ba) := rfl
theorem pWrite (ba : Addr) (bd : Word) :
    Statement (.pWrite ba bd) := rfl
theorem lockedPRead (ba : Addr) :
    Statement (.lockedPRead ba) := rfl
theorem lockedPWrite (ba : Addr) (bd : Word) :
    Statement (.lockedPWrite ba bd) := rfl
theorem idleCycle : Statement .idleCycle := rfl
theorem ownCycleGrant : Statement .ownCycleGrant := rfl
theorem consumptionWritePlaced : Statement .consumptionWritePlaced := rfl
theorem writeBackPlaced : Statement .writeBackPlaced := rfl
theorem claimReadComplete : Statement .claimReadComplete := rfl
theorem fillWritePlaced : Statement .fillWritePlaced := rfl
theorem ownerWordWritePlaced : Statement .ownerWordWritePlaced := rfl
theorem photoEdge (defx defy : Coord) :
    Statement (.photoEdge defx defy) := rfl
theorem repetitionIntervalExpiry (defx defy : Coord) :
    Statement (.repetitionIntervalExpiry defx defy) := rfl
theorem lastStrikeRecordDiscard : Statement .lastStrikeRecordDiscard := rfl
theorem pinhChange : Statement .pinhChange := rfl
theorem tipChange : Statement .tipChange := rfl
theorem debounceExpiry : Statement .debounceExpiry := rfl
theorem frameTimeoutExpiry : Statement .frameTimeoutExpiry := rfl
theorem gateCloseByLength : Statement .gateCloseByLength := rfl
theorem dwellReport : Statement .dwellReport := rfl
theorem trackLost : Statement .trackLost := rfl
theorem itemEchoExpiry : Statement .itemEchoExpiry := rfl
theorem powerUpResetEnd : Statement .powerUpResetEnd := rfl

end Sys2Proof.Laws.WellFormed
end

