-- ==== Sys2Proof/Laws/Store.lean ====
section
/-! SUPPORT. The refresh store: read after write, and the canonical form kept by every write. -/

namespace Sys2Proof.Machine

@[simp] theorem Store.readAt_nil (a : Nat) : Store.readAt [] a = Config.unwrittenWord := rfl

theorem Store.readAt_cons (k : Nat) (w : Word) (m : Store) (a : Nat) :
    Store.readAt ((k, w) :: m) a = if k = a then w else Store.readAt m a := rfl

/-- An address below every listed one reads as unwritten. -/
theorem Store.readAt_of_lt (m : Store) (a : Nat) (h : ∀ c ∈ m, a < c.1) :
    Store.readAt m a = Config.unwrittenWord := by
  induction m with
  | nil => rfl
  | cons c m ih =>
    obtain ⟨k, w⟩ := c
    have hk : a < k := h (k, w) (by simp)
    rw [Store.readAt_cons, if_neg (by omega)]
    exact ih (fun c hc => h c (by simp [hc]))

theorem Store.readAt_writeAt_same (m : Store) (a : Nat) (v : Word)
    (h : m.Pairwise (fun c d => c.1 < d.1)) : Store.readAt (Store.writeAt m a v) a = v := by
  induction m with
  | nil => by_cases hv : v = Config.unwrittenWord <;> simp [Store.writeAt, hv, Store.readAt_cons]
  | cons c m ih =>
    obtain ⟨k, w⟩ := c
    rw [List.pairwise_cons] at h
    obtain ⟨h1, h2⟩ := h
    simp only [Store.writeAt]
    split_ifs with hak hv hk hv
    · have := Store.readAt_of_lt ((k, w) :: m) a (by
        intro c hc
        rcases List.mem_cons.1 hc with rfl | hc
        · exact hak
        · exact lt_trans hak (h1 c hc))
      rw [this, hv]
    · simp [Store.readAt_cons]
    · rw [Store.readAt_of_lt m a (fun c hc => hk ▸ h1 c hc), hv]
    · simp [Store.readAt_cons]
    · rw [Store.readAt_cons, if_neg (by omega)]
      exact ih h2

theorem Store.readAt_writeAt_other (m : Store) (a b : Nat) (v : Word) (hab : b ≠ a) :
    Store.readAt (Store.writeAt m a v) b = Store.readAt m b := by
  induction m with
  | nil =>
    by_cases hv : v = Config.unwrittenWord <;> simp [Store.writeAt, hv, Store.readAt_cons, hab.symm]
  | cons c m ih =>
    obtain ⟨k, w⟩ := c
    simp only [Store.writeAt]
    split_ifs with hak hv hk hv
    · rfl
    · rw [Store.readAt_cons, if_neg hab.symm]
    · rw [Store.readAt_cons k, if_neg (by omega)]
    · rw [Store.readAt_cons, if_neg hab.symm, Store.readAt_cons, if_neg (by omega)]
    · rw [Store.readAt_cons, Store.readAt_cons, ih]

/-- Every cell after a write is one that was listed before or the one written. -/
theorem Store.mem_writeAt (m : Store) (a : Nat) (v : Word) (c : Nat × Word)
    (h : c ∈ Store.writeAt m a v) : c ∈ m ∨ (c = (a, v) ∧ v ≠ Config.unwrittenWord) := by
  induction m with
  | nil => by_cases hv : v = Config.unwrittenWord <;> simp_all [Store.writeAt]
  | cons d m ih =>
    obtain ⟨k, w⟩ := d
    simp only [Store.writeAt] at h
    split_ifs at h with h1 h2 h3 h4 <;> simp only [List.mem_cons] at h ⊢
    · exact .inl h
    · rcases h with h | h
      · exact .inr ⟨h, h2⟩
      · exact .inl h
    · exact .inl (.inr h)
    · rcases h with h | h
      · exact .inr ⟨h, h4⟩
      · exact .inl (.inr h)
    · rcases h with h | h
      · exact .inl (.inl h)
      · rcases ih h with h | h
        · exact .inl (.inr h)
        · exact .inr h

theorem Store.pairwise_writeAt (m : Store) (a : Nat) (v : Word)
    (h : m.Pairwise (fun c d => c.1 < d.1)) :
    (Store.writeAt m a v).Pairwise (fun c d => c.1 < d.1) := by
  induction m with
  | nil => by_cases hv : v = Config.unwrittenWord <;> simp [Store.writeAt, hv]
  | cons d m ih =>
    obtain ⟨k, w⟩ := d
    have h' := List.pairwise_cons.1 h
    simp only [Store.writeAt]
    split_ifs with h1 h2 h3 h4
    · exact h
    · refine List.pairwise_cons.2 ⟨fun c hc => ?_, h⟩
      rcases List.mem_cons.1 hc with rfl | hc
      · exact h1
      · exact lt_trans h1 (h'.1 c hc)
    · exact h'.2
    · exact List.pairwise_cons.2 ⟨fun c hc => h3 ▸ h'.1 c hc, h'.2⟩
    · refine List.pairwise_cons.2 ⟨fun c hc => ?_, ih h'.2⟩
      rcases Store.mem_writeAt m a v c hc with hc | ⟨rfl, _⟩
      · exact h'.1 c hc
      · change k < a
        omega

/-- A write to a store address keeps the canonical form. -/
theorem Store.wf_writeAt (m : Store) (a : Nat) (v : Word) (h : Store.wf m) (ha : a < 262144) :
    Store.wf (Store.writeAt m a v) := by
  refine ⟨Store.pairwise_writeAt m a v h.1, fun c hc => ?_⟩
  rcases Store.mem_writeAt m a v c hc with hc | ⟨rfl, hv⟩
  · exact h.2 c hc
  · exact ⟨ha, hv⟩

/-- What an array write does to the stored words. -/
theorem arrayWrite_word (a b : Addr) (w : Word) (s : State) (h : Store.wf s.store) :
    (arrayWrite a w s).word b = if b = a then w else s.word b := by
  simp only [State.word, arrayWrite, State.setPins_store, State.setStore_store]
  split_ifs with hab
  · rw [hab]
    exact Store.readAt_writeAt_same _ _ _ h.1
  · exact Store.readAt_writeAt_other _ _ _ _ (fun e => hab (BitVec.eq_of_toNat_eq e))

theorem arrayWrite_wf (a : Addr) (w : Word) (s : State) (h : Store.wf s.store) :
    Store.wf (arrayWrite a w s).store :=
  Store.wf_writeAt _ _ _ h a.isLt

end Sys2Proof.Machine
end

