-- ==== Sys2Proof/Tests/Slice0.lean ====
section
/-! SUPPORT. Tests: display orders decoded from words written out by the manual's layouts, the manual's worked
examples, and for every statement that has hypotheses a witness that meets them. The operands of every command
are bit vectors of their pins' widths, so that well-formedness refuses nothing. -/

namespace Sys2Proof.Tests

open Sys2Proof Sys2Proof.Machine

/-! ### Helpers -/

/-- The state after reset with some stored words. -/
def stored (m : Store) : State := State.reset.setStore m

/-- A display processor followed up to an expected address. -/
def followedAt (a : Addr) (m : Store) : State :=
  (stored m).setFollower { State.reset.follower with follow := .following, expected := some a }

/-- The same with the Pen Front End's copy, as a strike needs it. -/
def drawn (h : List HistoryEntry) : State :=
  (State.reset.setFollower { State.reset.follower with follow := .following, expected := some 0, history := h }).setPen
    { State.reset.pen with followCopy := .following }

/-- The state a result goes on to. -/
def after (r : Result) : State :=
  match r with
  | .next t => t
  | .fault _ | .refused _ => State.reset

/-- The ring of the worked sessions (13.1). -/
def ring4 : Ring := { base := 200000, slots := 4 }

/-- A record to be reported. -/
def someMark : Report := { kind := .mark, frame := 0, stamp := 0, code := some 17 }

/-- The ring active, its write-out at a step at slot 1. -/
def reporting (slots : List SlotState) (step : Option WriteStep) : State :=
  State.reset.setReports { State.reset.reports with
    ring := some ring4, slots := slots, pointer := 1, attention := anyWritten slots
    writeOut := step.map (fun p => { report := someMark, slot := 1, step := p }) }

/-- A state with an own cycle in progress. -/
def atPort (c : OwnCycle) (s : State) : State := s.setPassage { s.passage with port := some c }

/-- The notice of a P-write. -/
def noteOf (a : Addr) : Notice := { addr := a, data := 1 }

/-- A state in which every watcher has still to take the notice of a P-write. -/
def noticing (a : Addr) (s : State) : State := s.setNotices (Notices.none.offer (noteOf a))

/-- A state with a number of commands taken. -/
def taken (n : Nat) : State :=
  State.reset.setPass { State.reset.pass with
    consumption := (List.range n).map (fun k => { addr := BitVec.ofNat 18 k, extra := 0 }) }

/-- A Segment Table entry. -/
def segment (n : Name) (a : Attributes) (seen : FrameNo) : Segment :=
  { name := n, active := a, shadow := none, lastSeen := seen, dropPending := false }

/-- A table of entries named 1 to `n`, all last seen in one frame. -/
def tabled (n : Nat) (seen : FrameNo) : State :=
  State.reset.setSegments { State.reset.segments with
    entries := (List.range n).map (fun k => segment (BitVec.ofNat 12 (k + 1)) .default seen) }

/-- A LINE in the Fetch History. -/
def lineAt (a : Addr) (n : Name) : HistoryEntry :=
  { addr := a, kind := .line, fetchTime := 0, name := n, path := [n], edited := false, text := none }

/-- The latest fields of a vote. -/
def someSnapshot (item : Option ItemDesc) (locked : Bool) : Snapshot :=
  { orderAddr := 3120, path := [51], edited := false, locked := locked, sampleX := 400, sampleY := 700
    loftA := 280, loftB := 470, side := .aft, item := item, stale := false }

/-- A Tally entry. -/
def vote (n : Name) (votes : Nat) (locked : Bool) : TallyEntry :=
  { key := { name := n, item := none }, votes := votes, topPriority := 2, lastVote := 9
    latest := someSnapshot none locked }

/-- An open gate with a frame count and a Tally. -/
def opened (count : Nat) (tally : List TallyEntry) : State :=
  State.reset.setGate { State.reset.gate with
    gate := some { openTime := 0, frameCount := count, crowded := false, comparedLength := 4 }, tally := tally }

/-- An entry of a key of item 2 of a menu. -/
def itemVote (locked stale : Bool) : TallyEntry :=
  { vote 300 4 locked with
    key := { name := 300, item := some 2 }
    latest := { someSnapshot (some { textAddr := 7000, start := 13, length := 5 }) locked with stale := stale } }

/-- A menu TEXT's part in an entry. -/
def menuPart (count fetched : Nat) : TextPart :=
  { startX := 100, pitch := 10, count := count, fetched := fetched, menu := true }

/-- A menu TEXT of three characters in the Fetch History, all fetched. -/
def menuAt : HistoryEntry := { lineAt 7000 300 with kind := .text, text := some (menuPart 3 3) }

/-- A menu entry of one word with its two items. -/
def menu7000 : MenuEntry :=
  { addr := 7000, name := 300, count := 3, separator := 0x7C, scanned := 3
    items := [{ start := 0, length := 1 }, { start := 2, length := 1 }], valid := true }

/-- A winner result of an item of the menu at 7000. -/
def itemWinner : Winner :=
  { time := 0, sampleX := 120, sampleY := 0, key := { name := 300, item := some 1 }, orderAddr := 7000, path := [300]
    edited := false, priority := 0, isMenu := true, locked := false
    item := some { textAddr := 7000, start := 2, length := 1 } }

/-- A state with a winner result and a cross result still to be taken. -/
def inFlight (s : State) : State := s.setHanded { gate := [itemWinner], tracker := [.result 0 310 702] }

/-- A cross name of 12, with the box of power-up. -/
def crossed : TrackSettings := { TrackSettings.powerUp with crossName := 12 }

/-- A run at (300, 700). -/
def tracked (st : TrackState) : State :=
  State.reset.setTracker { State.reset.tracker with state := st, tx := 300, ty := 700 }

/-- The PLAN settings of the worked case: S = 640, oA = 84,000 (12.2, 13.3). -/
def worked : ViewSettings := { ViewSettings.powerUp with scale := 640, originA := 84000 }

/-! ### Words (12.1, 12.2) -/

/-- Each word is written out from the layout of 12.1: MOVE to (480, 590), a visible STEP, a TEXT of size 2 with 7
characters, a JUMP and an opaque CALL to 4096, a RETURN, a RESTART to 0, and opcode 0xF. -/
theorem test_order_words :
    [0x07824E#24, 0x100000#24, 0x280000#24, 0x200000#24, 0x380007#24, 0x400000#24, 0x501000#24, 0x601001#24,
      0x700000#24, 0x800000#24, 0xA00000#24, 0xF00000#24].map decodeOrder =
    [.move 480 590, .line, .step true, .step false, .text 2 7, .attr, .jump 4096, .call 4096 true, .ret,
      .restart 0, .dot, .other] := by decide

/-- The VIEW and the GRID order words of the example in 12.2, and the arguments of that GRID. -/
theorem test_view_and_grid_words :
    decodeOrder 0x964000 = .pass 3 4 0 ∧ decodeOrder 0x965000 = .pass 3 5 0 ∧
    gridCandidate [0x965000, 5, 800, 16776016] ViewSettings.powerUp =
      { ViewSettings.powerUp with grid := 5, spacing := 800, frameZero := -1200 } ∧
    viewCandidate 0 [0x964000, 640, 84000, 0] ViewSettings.powerUp = worked := by decide

/-- "A GATE argument of 0 therefore reads as L = 1, D = 2 and hover OFF" (12.2). -/
theorem test_gate_argument_zero :
    gateCandidate [0x926000, 0] GateSettings.powerUp = { length := 1, dwell := 2, hover := false } := by decide

/-- A PASS NOP with the command's extra-word count (R45). -/
theorem test_consumption_word : consumptionWord 2 = 0x940000 := by decide

/-- The order lengths of R3: a TEXT of 255 characters takes 86 words, an empty one 1, a PASS 1 + e. -/
theorem test_order_lengths :
    [Order.text 0 255, .text 0 0, .text 0 3, .pass 7 0 0, .line].map Order.words = [86, 1, 2, 8, 1] := by decide

/-- No row of the table carries bits, so that no word spells a command. -/
theorem test_no_word_spells_a_command (nbits w : Nat) : decodeTableWord nbits w = none := rfl

/-- Every command is well formed: its operands' types hold every range. -/
theorem test_well_formed (i : Instr) : i.wellFormed = true := by cases i <;> rfl

/-! ### Worked examples -/

/-- 13.1: the sample (400, 700) on the body plan is 280, 470, AFT. -/
theorem test_body_plan_sample :
    convert { ViewSettings.powerUp with view := .body, scale := 640 } 400 700 =
      { loftA := 280, loftB := 470, side := .aft } := by decide

/-- 13.3: the readout of position 301 is +083472, and of position 306 +083485. -/
theorem test_readout_glyphs :
    [301#10, 306#10].map (fun x => (List.range 7).map
      (readoutEntry worked { ReadoutPart.default with digits := 6 } (convert worked x 700) 7)) =
    [[0x2B#7, 0x30#7, 0x38#7, 0x33#7, 0x34#7, 0x37#7, 0x32#7].map some,
     [0x2B#7, 0x30#7, 0x38#7, 0x33#7, 0x34#7, 0x38#7, 0x35#7].map some] := by decide

/-- 13.3: the strikes (310, 702) and (306, 707) move the cross from (301, 700) to (306, 700) and (306, 704). -/
theorem test_cross_moves :
    filterStep .rn TrackSettings.powerUp 301 700 310 702 = (306, 700) ∧
    filterStep .rn TrackSettings.powerUp 306 700 306 707 = (306, 704) := by decide

/-- 13.1: intensity 10 with boost 4 is delivered at 14. -/
theorem test_bright_intensity : highlightIntensity .bright 4 10 = 14 := by decide

/-- 13.2: the menu KNUCKLE|FAIR|SPLIT at 7000, scanned word by word, has items of 7, 4 and 5 characters. -/
theorem test_menu_items :
    let text := [0x4B4E55#24, 0x434B4C#24, 0x457C46#24, 0x414952#24, 0x7C5350#24, 0x4C4954#24]
    let m := (List.range 6).foldl (fun m k => menuOperand 7000 (3 * k) (text.getD k 0) m)
      (menuStart (MenuEntry.start 7000 300 18 0x7C) [])
    m.map (·.items) = [[{ start := 0, length := 7 }, { start := 8, length := 4 }, { start := 13, length := 5 }]] ∧
    menuLookup m 7000 300 18 15 = some (2, { start := 13, length := 5 }) ∧
    menuLookup m 7000 300 18 12 = none := by decide

/-- The slot of the AMBIGUOUS PICK worked in 12.3: w1 to w4, w6 to w8, w11, w12 and the owner word. -/
theorem test_pick_slot :
    let r : Report :=
      { kind := .pick, flags := { ambiguous := true }, frame := 122, stamp := 0, name := some 42
        orderAddr := some 4411, path := [41, 42], loft := some (83472, 470), sample := some (301, 700)
        winnerVotes := 4, runnerVotes := 3, runner := some { name := 41, item := none } }
    [1, 2, 3, 4, 5, 6, 7, 8, 9, 10, 11, 12].map r.word =
      [0x40027A, 0x02A000, 0x80113B, 83472, 470, 0x04B6BC, 0x000403, 0x029000, 0, 0, 0x02902A, 0] ∧
    ownerWord 37 .pick = 0x002501 := by decide

/-- 13.4: the queue after PICK A, TRACK T1, ITEM B, TRACK T2, CONDITION C, REFUSAL R, MISS M and TRACK T3 holds A,
B, C and R with the gap flag set; T4 after A has left carries GAP. -/
theorem test_queue_session :
    let request := fun (w : ReportWriter) (k : ReportKind) => w.enqueue { kind := k, frame := 0, stamp := 0 }
    let w := [ReportKind.pick, .track, .item, .track, .condition, .refusal, .miss, .track].foldl request
      ReportWriter.powerUp
    let v := request { w with queue := w.queue.tail } .track
    w.queue.map (·.kind) = [.pick, .item, .condition, .refusal] ∧ w.gap = true ∧
    v.queue.map (fun r => (r.kind, r.flags.gap)) =
      [(.item, false), (.condition, false), (.refusal, false), (.track, true)] ∧ v.gap = false := by decide

/-- 13.1: the decision has 51 on 4 votes before 52 on 2 with a higher priority, and is AMBIGUOUS. -/
theorem test_contested_pick :
    let snap : Snapshot :=
      { orderAddr := 3120, path := [51], edited := false, locked := false, sampleX := 400, sampleY := 700
        loftA := 280, loftB := 470, side := .aft, item := none, stale := false }
    let e51 : TallyEntry :=
      { key := { name := 51, item := none }, votes := 4, topPriority := 2, lastVote := 9, latest := snap }
    let e52 : TallyEntry :=
      { key := { name := 52, item := none }, votes := 2, topPriority := 5, lastVote := 8, latest := snap }
    tallyWinner 0 [e51, e52] = some e51 ∧ tallyRunner 0 [e51, e52] e51 = some e52 ∧
    isAmbiguous e51 (some e52) = true := by decide

/-! ### One step -/

theorem test_write_then_read :
    (after (exec (.pRead 262143) (arrayWrite 262143 0xABCDEF State.reset))).pins.bd = 0xABCDEF := by decide

/-- R162: a fetch of a written word that comes to the Order Follower before the notice is then marked EDITED, and one
that comes after it is not. -/
theorem test_fetch_beside_a_notice :
    let s := noticing 100 (followedAt 100 [(100, 0x100000)])
    let edited := fun (t : State) => t.follower.history.map (·.edited)
    edited (followerTakes 1 (carryDRead 100 0 0 s)) = [true] ∧
    edited (carryDRead 100 0 0 (followerTakes 1 s)) = [false] := by decide

/-- R160, R162: the lock of a completed pair is held while a watcher has still to take the notice, and no longer. -/
theorem test_pair_holds_the_lock :
    let s := noticing 100 (closePair (setLock true State.reset))
    (endPair s).passage.lockHeld = true ∧ ownMayBeGranted s = false ∧
    (settleNotices s).passage.lockHeld = false ∧ ownMayBeGranted (settleNotices s) = true := by decide

/-- R169: the power-up leaves no notice being taken; R170 leaves one as it is, and its watcher reset. -/
theorem test_notices_at_resets :
    let s := noticing 100 (drawn [lineAt 100 51])
    (powerUpState 0 s).passage.notices = .none ∧ (initState 0 s).passage.notices = s.passage.notices ∧
    (settleNotices (initState 0 s)).follower.history = [] := by decide

theorem test_locked_read_holds_the_lock :
    (after (exec (.lockedPRead 5) State.reset)).passage.lockHeld = true ∧
    (after (exec .idleCycle (after (exec (.lockedPRead 5) State.reset)))).passage.lockHeld = false := by decide

/-- A LINE fetched where it is expected, the next address wrapping (R4). -/
theorem test_fetch_wraps :
    (after (exec (.dRead 262143 0 0) (followedAt 262143 [(262143, 0x100000)]))).follower.expected = some 0 := by
  decide

/-- A CALL's slot order done, the callee's level stands on the stack (R17). -/
theorem test_call_pushes_a_level :
    let m : Store := [(100, 0x601001), (101, 0x400000)]
    let s := after (exec (.dRead 101 0 0) (after (exec (.dRead 100 0 0) (followedAt 100 m))))
    s.follower.expected = some 4096 ∧
    s.follower.pushed = [{ name := 0, returnAddr := 102, opaqueCall := true }] := by decide

/-- A MARK taken once is consumed: the own write leaves PASS NOP over it (R40, R45). -/
theorem test_mark_is_consumed :
    let s := after (exec (.dRead 100 0 0) (followedAt 100 [(100, 0x908711)]))
    let t := after (exec .consumptionWritePlaced (after (exec .ownCycleGrant s)))
    s.reports.queue.map (·.code) = [some 17] ∧ t.word 100 = 0x900000 ∧ t.pass.consumption = [] := by decide

theorem test_tip_change_starts_the_debounce :
    (after (exec .tipChange State.reset)).pen.debounce = some { since := 0, length := 6000 } := by decide

theorem test_pinh_latches :
    let s := State.reset.setPen { State.reset.pen with
      active := { State.reset.pen.active with inhibitMode := .latch } }
    (after (exec .pinhChange s)).pen.inhibitLatch = true ∧
    (after (exec .pinhChange State.reset)).pen.inhibitLatch = false := by decide

/-- A fetch off the account and a pulse in one microsecond (R80): the pulse taken before the entry to LOST is an
accepted strike on an emptied history, and the pulse taken after it is none. -/
theorem test_pulse_beside_a_loss :
    let s := after (exec (.dRead 5 0 0) (drawn [lineAt 3120 51]))
    s.follower.follow = .lost ∧ s.follower.history = [] ∧ changesTaken s = false ∧
    (pulseMeeting true s).pen.strikes = 1 ∧ (pulseMeeting false s).pen.strikes = 0 ∧
    (tick s).pen.followCopy = .lost := by decide

/-! ### Witnesses: queue, resets, bus -/

/-- EmptyQueueTakesADueEventOrAMicrosecond: nothing due after reset, and a record 63 µs old due, with no notice being
taken, with one, and with strike results still to be taken. -/
theorem witness_idle :
    let s := (State.reset.setTime 63).setPen { State.reset.pen with lastStrike := some 0 }
    (State.reset.pending = [] ∧ Settled State.reset ∧ dueEvents State.reset = []) ∧
    (s.pending = [] ∧ Settled s ∧ dueEvents s ≠ []) ∧
    ∀ u ∈ [noticing 5 State.reset, noticing 5 s, inFlight State.reset, inFlight s],
      u.pending = [] ∧ ¬Settled u := by decide

/-- EveryCommandAnswersANextState: notices being taken, or strike results still to be taken, at a free port, and each of
the events about to happen. -/
theorem witness_notices :
    let s := noticing 5 State.reset
    let p := fun (t : Sys2Proof.Time) (x : Pen) => noticing 5 ((State.reset.setTime t).setPen x)
    (PortOpen s ∧ ¬Settled s ∧ PortOpen (inFlight State.reset) ∧ ¬Settled (inFlight State.reset)) ∧
    repetitionDue (p 12 { State.reset.pen with repetition := some { since := 0, length := 12 } }) = true ∧
    debounceDue (p 6000 { State.reset.pen with debounce := some { since := 0, length := 6000 } }) = true ∧
    timeoutDue (s.setTime 100000) = true ∧
    (noticing 5 (opened 4 [])).gate.gate.any (fun g => g.comparedLength ≤ g.frameCount) = true ∧
    s.gate.dwell.comparedDwell ≤ s.gate.dwell.count ∧
    (s.setTracker { s.tracker with lossCount := 5 }).tracker.comparedLoss ≤ 5 := by decide

/-- A state whose present moment has two echo requests and a report request. -/
def asking : State :=
  State.reset.setMoment { echo := [.pick 51, .pick 52], reports := [someMark] }

/-- InitResetsEveryBlock: a free port, an own read and an own write in progress, no power-up reset in force, requests of
the INIT's own moment, notices being taken, and strike results still to be taken. -/
theorem witness_init :
    (State.reset.passage.port = none ∧ State.reset.passage.held = [] ∧ State.reset.moment = .empty ∧
      Settled State.reset ∧ State.reset.passage.resetInForce = false ∧ State.reset.moment.reports = []) ∧
    (∀ c ∈ [OwnCycle.claim 200000, .fill 200001 5],
      (atPort c State.reset).passage.port = some c ∧ (atPort c State.reset).passage.held = [] ∧
      (atPort c State.reset).moment = .empty ∧ Settled (atPort c State.reset)) ∧
    (asking.passage.held = [] ∧ asking.moment ≠ .empty ∧ Settled asking) ∧
    (let s := noticing 5 State.reset
     s.passage.port = none ∧ s.passage.held = [] ∧ s.moment = .empty ∧ ¬NoticesTaken s) ∧
    (let s := inFlight (tracked .tracking)
     s.passage.port = none ∧ s.passage.held = [] ∧ s.moment = .empty ∧ NoticesTaken s ∧
     s.handed = { gate := [itemWinner], tracker := [.result 0 310 702] }) ∧
    ∃ t, exec (.busInit 0) (asking.setMoment .empty) = .next t :=
  ⟨by decide, by decide, by decide, by decide, by decide, _, rfl⟩

/-- R168: a P-read held through an INIT that a report request outlives is granted with the claim already offered, and
counts, or before the offer, and does not count. -/
theorem test_claim_beside_a_held_cycle :
    let held := (reporting [.free, .free, .free, .free] none).setPassage { State.reset.passage with held := [.pRead 5] }
    let s := takeRequests { Moment.empty with reports := [someMark] } (initState 0 held)
    ownRequests s = [.claim 200000] ∧
    (serveCounting (ownRequests s) s.passage.held s).passage.fairShare = 1 ∧
    (serveCounting (otherRequests s) s.passage.held s).passage.fairShare = 0 := by decide

/-- "An INIT that comes before an echo request of the same moment" leaves the record of it (R183); one after every
request leaves none, and the reports that come after an INIT are queued (R199). -/
theorem test_init_beside_requests :
    let t := fun c => takeRequests (asking.moment.afterInit c) (initState 0 asking)
    ((t 0).echo.picked = some 52 ∧ (t 0).reports.queue.length = 1) ∧
    ((t 2).echo.picked = none ∧ (t 2).reports.queue.length = 1) ∧
    (t 5).echo.picked = none ∧ (t 5).reports.queue = [] := by decide

/-- ResetEndServesTheHeldCycle: PURST in force, with nothing waiting and with a P-read waiting. -/
theorem witness_reset_end :
    let s := after (exec (.powerUp 0) State.reset)
    let t := after (exec (.pRead 5) s)
    (s.passage.resetInForce = true ∧ s.passage.port = none ∧ Settled s ∧ s.passage.held = []) ∧
    t.passage.resetInForce = true ∧ t.passage.port = none ∧ Settled t ∧ t.passage.held = [.pRead 5] ∧
    t.passage.fairShare = 0 := by decide

/-- A state whose fair-share count is `n`. -/
def counted (n : Nat) (s : State) : State := s.setPassage { s.passage with fairShare := n }

/-- PassingGranted, as the statements of the passing cycles need it: a count of 7 with a request outstanding, and a
count of 8 with none. -/
theorem witness_passing : PassingGranted (counted 7 (taken 1)) ∧ PassingGranted (counted 8 State.reset) := by
  decide

/-- PWriteStoresAndIsNoticed and PWriteMarksStalePicks: a canonical store, a granted P-write, and a locked P-write with
its lock held at a count of 8 with a request outstanding. -/
theorem witness_p_write :
    let s := (counted 7 (taken 1)).setStore [(5, 1)]
    let t := (counted 8 (taken 1)).setPassage { (counted 8 (taken 1)).passage with lockHeld := true }
    (Store.wf s.store ∧ PassingGranted s) ∧ Store.wf t.store ∧ BusFree t ∧ t.passage.lockHeld = true := by decide

/-- PWriteStoresAndIsNoticed, a fetch granted while a watcher has still to take the notice: a LINE, a TEXT under a
MENU name and, in a run, the cross MOVE. PWriteMarksStalePicks: no strike result still to be taken, and one for an
item of the text written. -/
theorem witness_fetch_beside_a_notice :
    let menu := [segment 300 { Attributes.default with classPart := .menu 0x7C .tip } 0]
    let under := fun (n : Name) (w : Word) =>
      let s := followedAt 100 [(100, w)]
      s.setFollower { s.follower with rootName := n }
    let reaches := fun (s : State) => PortOpen s ∧ s.passage.fairShare < 8 ∧ s.follower.follow = .following ∧
      s.follower.expected = some 100 ∧ s.follower.inProgress = none ∧ s.follower.transfer = none ∧
      s.follower.display = .running
    (let s := (under 0 0x100000).setNotices { Notices.none with follower := [noteOf 100] }
     reaches s ∧ s.passage.notices = { Notices.none with follower := [noteOf 100] } ∧
     decodeOrder (s.word 100) = .line) ∧
    (let s := ((under 300 0x380007).setSegments { State.reset.segments with entries := menu }).setNotices
       { Notices.none with menuMap := [noteOf 100] }
     reaches s ∧ s.passage.notices = { Notices.none with menuMap := [noteOf 100] } ∧
     decodeOrder (s.word 100) = .text 2 7 ∧
     (attributesOf s (nameNow s.follower)).classPart = .menu 0x7C .tip) ∧
    (let run := { State.reset.tracker with active := crossed, state := .tracking }
     let s := ((under 12 0x07824E).setTracker run).setNotices { Notices.none with tracker := [noteOf 100] }
     reaches s ∧ s.passage.notices = { Notices.none with tracker := [noteOf 100] } ∧
     decodeOrder (s.word 100) = .move 480 590 ∧ s.tracker.state ≠ .off ∧ s.tracker.active.crossName ≠ 0 ∧
     nameNow s.follower = s.tracker.active.crossName ∧ s.tracker.cross = none) ∧
    PassingGranted State.reset ∧
    (let s := ((opened 0 []).setMenuMap [menu7000]).setHanded { gate := [itemWinner], tracker := [] }
     PortOpen s ∧ NoticesTaken s ∧ s.passage.fairShare < 8 ∧ s.handed = { gate := [itemWinner], tracker := [] } ∧
     itemWinner.item = some { textAddr := 7000, start := 2, length := 1 } ∧ menu7000 ∈ s.menuMap ∧
     menu7000.addr = 7000 ∧ menu7000.valid = true ∧ inSpan 7001 menu7000.addr (1 + (menu7000.count + 2) / 3) = true ∧
     s.gate.gate.isSome ∧ (itemWinner.time - 0).toNat < 8388608) := by decide

/-- IdleAndWaitingCycles: nothing waiting, an own cycle in progress, and PURST in force. -/
theorem witness_waiting :
    State.reset.passage.held = [] ∧
    ((atPort (.claim 200000) State.reset).passage.port ≠ none ∧
      (atPort (.claim 200000) State.reset).passage.held = []) ∧
    (State.reset.setPassage (Passage.reset true)).passage.resetInForce = true := by decide

/-- FairShareGrantsOneOwnCycle: a count of 8 and a request, with the lock held and released, and notices being taken
or strike results still to be taken. -/
theorem witness_fair_share :
    ∀ b ∈ [false, true],
      let s := (counted 8 (taken 1)).setPassage { (counted 8 (taken 1)).passage with lockHeld := b }
      (BusFree s ∧ s.passage.fairShare = 8 ∧ ownRequests s = [.consumption 0 0x900000] ∧ s.passage.lockHeld = b ∧
        s.passage.pairWritten = false) ∧
      (PortOpen (noticing 5 s) ∧ ¬Settled (noticing 5 s)) ∧ PortOpen (inFlight s) ∧ ¬Settled (inFlight s) := by decide

/-- OwnCycleGrantFollowsTheOrder: each clause's first request, none, and notices being taken with the lock released and
held. -/
theorem witness_own_grant :
    let w := State.reset.setTracker { State.reset.tracker with
      writeBack := some { addr := 6200, word := 1, granted := false } }
    let r := reporting [.free, .free, .free, .free] (some .claim)
    (BusFree (taken 4) ∧ (taken 4).passage.lockHeld = false ∧ (taken 4).pass.consumption ≠ []) ∧
    (BusFree w ∧ w.pass.consumption = [] ∧ w.tracker.writeBack = some { addr := 6200, word := 1, granted := false }) ∧
    (BusFree r ∧ r.pass.consumption = [] ∧ r.tracker.writeBack = none ∧
      writeOutRequest r.reports = some (.claim 200016)) ∧
    (BusFree State.reset ∧ writeOutRequest State.reset.reports = none) ∧
    ∀ b ∈ [false, true],
      let s := noticing 5 (setLock b (taken 1))
      PortOpen s ∧ ¬NoticesTaken s ∧ (settleNotices s).passage.lockHeld = b ∧
      ownRequests (settleNotices s) ≠ [] := by decide

/-- Four commands may be taken. -/
theorem taken_sound : ConsumptionSound (taken 4).pass.consumption := by
  constructor <;> decide

/-- OwnCycleGrantFollowsTheOrder, the bound on the list: four consumption writes, a write-back and a claim read. -/
theorem witness_own_grant_longest :
    let s := ((taken 4).setReports (reporting [.free, .free, .free, .free] (some .claim)).reports).setTracker
      { State.reset.tracker with writeBack := some { addr := 6200, word := 1, granted := false } }
    BusFree s ∧ s.passage.lockHeld = false ∧ ConsumptionSound s.pass.consumption ∧
    writeOutRequest s.reports = some (.claim 200016) ∧ (ownRequests s).length = 6 :=
  ⟨by decide, rfl, taken_sound, rfl, rfl⟩

/-- OwnWritesOfOrdersArePlaced: a consumption write and a write-back in progress. -/
theorem witness_own_writes :
    let s := atPort (.consumption 0 0x900000) (taken 1)
    let t := (atPort (.writeBack 6200 1) State.reset).setTracker { State.reset.tracker with
      writeBack := some { addr := 6200, word := 1, granted := true } }
    (s.passage.held = [] ∧ s.passage.port = some (.consumption 0 0x900000)) ∧
    t.passage.held = [] ∧ t.passage.port = some (.writeBack 6200 1) ∧
    t.tracker.writeBack = some { addr := 6200, word := 1, granted := true } := by decide

/-- ClaimReadSettlesTheSlot: a claim read in progress, of a zero owner word and of another. -/
theorem witness_claim :
    ∀ m ∈ [([] : Store), [(200016, 1)]],
      let s := (atPort (.claim 200016) (reporting [.free, .free, .free, .free] (some .claim))).setStore m
      s.passage.held = [] ∧ s.reports.ring = some ring4 ∧
      s.reports.writeOut = some { report := someMark, slot := 1, step := .claim } ∧
      s.passage.port = some (.claim (slotAddr ring4 1 0)) := by decide

/-- The Report Writer of the helper is sound when its write-out agrees with the Slot Map. -/
theorem reporting_sound (slots : List SlotState) (p : WriteStep) (h4 : slots.length = 4)
    (hw : WriteOutSound (reporting slots (some p)).reports { report := someMark, slot := 1, step := p })
    (hf : ∀ i, slots.getD i .unknown = .filling → i = 1 ∧ p ≠ .claim ∧ p ≠ .waiting) :
    ReportsSound (reporting slots (some p)).reports where
  ring r h := by cases h; exact ⟨⟨by decide, by decide, by decide⟩, h4, (by decide : (1 : Nat) < 4)⟩
  noRing h := by cases h
  shadow r h := by cases h
  attention := rfl
  sequence := (by decide : 1 ≤ 1 ∧ 1 ≤ 255)
  queueLength := Nat.zero_le _
  oneTrack := Nat.zero_le _
  idle _ h := by cases h
  writeOut o h := by cases h; exact hw
  filling i h := ⟨_, rfl, (hf i h).1.symm, (hf i h).2⟩
  deferral h := by cases h

/-- A ring pending, its application deferred. -/
def deferring (s : State) : State :=
  s.setReports { s.reports with shadow := some { base := 0, slots := 2 }, deferral := true }

/-- A deferral during FILLING or PUBLISH is sound. -/
theorem deferring_sound {s : State} {o : WriteOut} (h : ReportsSound s.reports) (ho : s.reports.writeOut = some o)
    (hs : o.step ≠ .claim ∧ o.step ≠ .waiting) : ReportsSound (deferring s).reports where
  ring := h.ring
  noRing := h.noRing
  shadow r hr := by cases hr; exact ⟨by decide, by decide, by decide⟩
  attention := h.attention
  sequence := h.sequence
  queueLength := h.queueLength
  oneTrack := h.oneTrack
  idle := h.idle
  writeOut := h.writeOut
  filling := h.filling
  deferral _ := ⟨nofun, o, ho, hs⟩

/-- OwnerWordNoticeMovesTheSlot, FillAndPublishTheReport and StepKeepsReportsSound: the Report Writer at each step of
its write-out. -/
theorem witness_reports_sound :
    ReportsSound (reporting [.written, .free, .unknown, .occupied] (some .claim)).reports ∧
    ReportsSound (reporting [.written, .written, .unknown, .occupied] (some .waiting)).reports ∧
    ReportsSound (reporting [.free, .filling, .unknown, .occupied] (some (.filling 15))).reports ∧
    ReportsSound (reporting [.free, .filling, .unknown, .occupied] (some .publish)).reports := by
  refine ⟨reporting_sound _ _ rfl ⟨rfl, .inr rfl⟩ ?_, reporting_sound _ _ rfl ⟨rfl, .inr rfl⟩ ?_,
    reporting_sound _ _ rfl ⟨rfl, by decide, by decide, rfl⟩ ?_, reporting_sound _ _ rfl ⟨rfl, rfl⟩ ?_⟩ <;>
  · rintro (_ | _ | _ | _ | i) h <;> simp at h ⊢

/-- OwnerWordNoticeMovesTheSlot and FillAndPublishTheReport with an application deferred: at a fill write and at the
owner-word write, no cycle in progress and the owner-word write in progress. -/
theorem witness_deferral :
    (∀ p ∈ [WriteStep.filling 15, .publish],
      let s := deferring (reporting [.free, .filling, .unknown, .occupied] (some p))
      PassingGranted s ∧ ReportsSound s.reports ∧ s.reports.ring = some ring4 ∧
      s.reports.writeOut = some { report := someMark, slot := 1, step := p } ∧ s.reports.deferral = true ∧
      s.reports.shadow = some { base := 0, slots := 2 }) ∧
    let s := atPort (.owner 200016 0x000109) (deferring (reporting [.free, .filling, .unknown, .occupied]
      (some .publish)))
    s.passage.held = [] ∧ s.passage.port = some (.owner 200016 0x000109) := by
  refine ⟨?_, by decide⟩
  rintro p (_ | ⟨_, _ | ⟨_, h⟩⟩)
  · exact ⟨by decide, deferring_sound witness_reports_sound.2.2.1 rfl (by decide), rfl, rfl, rfl, rfl⟩
  · exact ⟨by decide, deferring_sound witness_reports_sound.2.2.2 rfl (by decide), rfl, rfl, rfl, rfl⟩
  · cases h

/-- OwnerWordNoticeMovesTheSlot, on the states of `witness_reports_sound`: the last slot, which the write-out does not
hold, and the held slot at each step. -/
theorem witness_owner_notice :
    (3 : Nat) < ring4.slots ∧ (1 : Nat) ≠ 3 ∧
    ∀ p ∈ [([SlotState.written, .free, .unknown, .occupied], WriteStep.claim),
        ([.written, .written, .unknown, .occupied], .waiting),
        ([.free, .filling, .unknown, .occupied], .filling 15), ([.free, .filling, .unknown, .occupied], .publish)],
      PassingGranted (reporting p.1 (some p.2)) ∧ (reporting p.1 (some p.2)).reports.ring = some ring4 ∧
      (reporting p.1 (some p.2)).reports.deferral = false ∧
      (reporting p.1 (some p.2)).reports.writeOut = some { report := someMark, slot := 1, step := p.2 } := by decide

/-- FillAndPublishTheReport: the first and the last fill write, and the owner-word write. -/
theorem witness_fill_and_publish :
    (∀ k ∈ [1, 15],
      let s := atPort (.fill (slotAddr ring4 1 k) 0) (reporting [.free, .filling, .free, .free] (some (.filling k)))
      s.passage.held = [] ∧ s.reports.writeOut = some { report := someMark, slot := 1, step := .filling k } ∧
      s.passage.port = some (.fill (slotAddr ring4 1 k) 0)) ∧
    let s := atPort (.owner 200016 0x000109) (reporting [.free, .filling, .unknown, .occupied] (some .publish))
    s.passage.held = [] ∧ s.reports.ring = some ring4 ∧ s.reports.deferral = false ∧
    s.passage.port = some (.owner 200016 0x000109) := by decide

/-- OwnWritesOfOrdersArePlaced, ClaimReadSettlesTheSlot and FillAndPublishTheReport: a cycle of each kind in progress,
with no power-up reset in force and no strike result still to be taken. -/
theorem witness_held_cycles :
    ∀ c ∈ [OwnCycle.consumption 0 0x900000, .writeBack 6200 1, .claim 200016, .fill 200017 0, .owner 200016 0x000109],
      (atPort c State.reset).passage.port = some c ∧ (atPort c State.reset).passage.resetInForce = false ∧
      ResultsTaken (atPort c State.reset) := by decide

/-- R165, R166: a P-read held behind a consumption write is carried as that write is placed, and reads the word placed;
the count rises with another command still listed, and not with none. -/
theorem test_held_cycle_is_carried :
    let t := fun n => after (exec .consumptionWritePlaced
      (let s := atPort (.consumption 0 0x900000) (taken n)
       s.setPassage { s.passage with held := [.pRead 0] }))
    (t 2).pins.bd = 0x900000 ∧ (t 2).passage.held = [] ∧ (t 2).pins.bwait = false ∧
    [(t 1).passage.fairShare, (t 2).passage.fairShare] = [0, 1] := by decide

/-! ### Witnesses: fetches -/

/-- A TEXT order under a MENU name with its order word fetched. -/
def textOrder : InProgress :=
  { addr := 100, order := .text 2 7, words := 4, fetched := 1, stored := [0x380007], name := 300, path := [300]
    menu := true }

/-- FetchEntersAVisibleOrder: each order, with an empty and with a full history, and the first operand word of a TEXT.
-/
theorem witness_visible :
    (∀ p ∈ [(0x100000#24, Order.line), (0xA00000, .dot), (0x280000, .step true), (0x380007, .text 2 7),
        (0x07824E, .move 480 590)], ∀ n ∈ [0, 16],
      let s := followedAt 100 [(100, p.1)]
      let t := s.setFollower { s.follower with history := List.replicate n (lineAt 50 0) }
      PassingGranted t ∧ t.follower.follow = .following ∧ t.follower.expected = some 100 ∧
      t.follower.inProgress = none ∧ t.follower.transfer = none ∧ t.follower.display = .running ∧
      t.follower.history.length = n ∧ decodeOrder (t.word 100) = p.2) ∧
    let u := (followedAt 101 [(101, 0x4B4E55)]).setFollower
      { (followedAt 101 []).follower with inProgress := some textOrder, history := [lineAt 100 300] }
    PassingGranted u ∧ u.follower.follow = .following ∧ u.follower.expected = some 101 ∧
    u.follower.inProgress = some textOrder ∧ u.follower.transfer = none ∧ textOrder.order = .text 2 7 ∧
    1 ≤ textOrder.fetched ∧ u.follower.history = [] ++ [lineAt 100 300] := by decide

/-- FetchOutsideTheAccount: a fetch beside the expected address, and one in WAITING with no candidate. -/
theorem witness_outside :
    (let s := followedAt 100 [(101, 0x800005)]
     PassingGranted s ∧ s.follower.follow = .following ∧ s.follower.expected ≠ some 101) ∧
    PassingGranted State.reset ∧ State.reset.follower.follow ≠ .following ∧
    State.reset.follower.resync ≠ some 101 := by decide

/-- A search that has a candidate. -/
def searching (f : FollowState) (w : Word) : State :=
  (stored [(100, w)]).setFollower { State.reset.follower with follow := f, resync := some 100 }

/-- ResyncFollowsAndEndsAFrame: the candidate in WAITING and in LOST, and each order, a PASS of one word and of two. -/
theorem witness_resync :
    ∀ f ∈ [FollowState.waiting, .lost],
      ∀ p ∈ [(0x100000#24, Order.line), (0xA00000, .dot), (0x280000, .step true), (0x200000, .step false),
          (0x380007, .text 2 7), (0x380000, .text 2 0), (0x07824E, .move 480 590), (0x400000, .attr),
          (0xF00000, .other), (0x501000, .jump 4096), (0x601001, .call 4096 true), (0x700000, .ret),
          (0x800064, .restart 100), (0x90102A, .pass 0 1 42), (0x926000, .pass 1 6 0)],
        let s := searching f p.1
        PassingGranted s ∧ s.follower.follow ≠ .following ∧ s.follower.resync = some 100 ∧
        decodeOrder (s.word 100) = p.2 := by decide

/-- A search is sound in WAITING and in LOST. -/
theorem searching_sound (w : Word) : ∀ f ∈ [FollowState.waiting, .lost],
    FollowerSound (searching f w).follower ∧ TrackerSound (searching f w).tracker := by
  intro f h
  refine ⟨?_, ?_⟩
  · constructor <;> fin_cases h <;> simp [searching, State.reset, Follower.reset]
  · constructor <;> simp [searching, stored, State.reset, Tracker.reset, TrackSettings.powerUp]
    constructor <;> decide

/-- R7, R21: a LINE, a NAME and a JUMP at the candidate, after a frame end in one of its orders. -/
theorem test_resync_follows :
    let t := fun w =>
      let s := searching .lost w
      (fetchOrderWord 100 w (frameEndIn frameTakers 100 (s.setFollower { s.follower.emptied with
        follow := .following, resync := none, expected := none }))).1.follower
    (t 0x100000).history = [lineAt 100 0] ∧ (t 0x90102A).rootName = 42 ∧ (t 0x501000).frameNo = 1 ∧
    (t 0x501000).transfer = some (.jump 4096) := by decide

/-- A RESTART to its own address, expected. -/
def restarting : State := followedAt 100 [(100, 0x800064)]

/-- RestartEndsAFrame, GateClosesByLength, DwellIsReportedOnce and LossAndEchoLimits: the RESTART, whatever the Gate
Unit, the Tracking Unit and the Report Writer hold, the display RUNNING or STOPPED. -/
theorem witness_at_restart (d : DisplayState) (g : GateUnit) (t : Tracker) (r : ReportWriter) :
    AtRestart 100 100 ((((restarting.setFollower { restarting.follower with display := d }).setGate g).setTracker
      t).setReports r) :=
  ⟨⟨⟨⟨rfl, rfl, rfl⟩, rfl, rfl⟩, .inl (Nat.zero_lt_succ 7)⟩, rfl, rfl, rfl, by
    have h : decodeOrder (restarting.word 100) = .restart 100 := by decide
    exact h⟩

/-- RestartEndsAFrame: the quiet frame end with the display RUNNING and STOPPED, an OPEN gate below its length, a box
that changes and one that does not, and a ring pending at each place of the write-out. -/
theorem witness_restart :
    (∃ g, (opened 2 [vote 51 4 false]).gate.gate = some g ∧
      g.frameCount + 1 < (opened 2 [vote 51 4 false]).gate.active.length) ∧
    (∀ b ∈ [TrackSettings.powerUp, { TrackSettings.powerUp with xmin := 100, xmax := 100, ymin := 1023 }],
      b.gainShift ≤ 3 ∧ (1 ≤ b.lossLimit ∧ b.lossLimit ≤ 15) ∧ b.xmin.toNat ≤ b.xmax.toNat ∧
      b.ymin.toNat ≤ b.ymax.toNat) ∧
    GateQuiet restarting ∧ restarting.tracker.state = .off ∧ restarting.follower.display = .running ∧
    restarting.reports.shadow = none ∧
    ∀ p ∈ [none, some WriteStep.claim, some .waiting, some (.filling 1), some .publish],
      let w := { (reporting [.free, .filling, .free, .free] p).reports with shadow := some ring4 }
      w.shadow = some ring4 ∧ w.writeOut = p.map (fun k => { report := someMark, slot := 1, step := k }) :=
  ⟨⟨_, rfl, by decide⟩, by decide⟩

/-- A stack of `n` pushed levels. -/
def nested (n : Nat) (s : State) : State :=
  s.setFollower { s.follower with
    pushed := List.replicate n { name := 7, returnAddr := 300, opaqueCall := false } }

/-- TransferIsNotedOrFaults: a JUMP, a CALL with six levels and a RETURN with one, and a CALL with seven and a RETURN
with none. -/
theorem witness_transfer :
    (∀ p ∈ [(0, 0x501000#24, Order.jump 4096), (6, 0x601001, .call 4096 true), (1, 0x700000, .ret),
        (7, 0x601001, .call 4096 true), (0, 0x700000, .ret)],
      let s := nested p.1 (followedAt 100 [(100, p.2.1)])
      PassingGranted s ∧ s.follower.follow = .following ∧ s.follower.expected = some 100 ∧
      s.follower.inProgress = none ∧ s.follower.transfer = none ∧ s.follower.display = .running ∧
      decodeOrder (s.word 100) = p.2.2 ∧ s.follower.pushed.length = p.1) := by decide

/-- SlotOrderCarriesOutTheTransfer: under each transfer a LINE, a JUMP and a NAME in its slot, the order word of a TEXT
of four words and of a PASS of two, and the second and the last word of a TEXT and of a NAME of two words. -/
theorem witness_slot_order :
    (∀ tr ∈ [Transfer.jump 9, .call 4096 true, .ret],
      ∀ p ∈ [(0x100000#24, Order.line), (0x501000, .jump 4096), (0x90102A, .pass 0 1 42), (0x380007, .text 2 7),
          (0x926000, .pass 1 6 0)],
        let s := nested 1 (followedAt 100 [(100, p.1)])
        let t := s.setFollower { s.follower with transfer := some tr }
        PassingGranted t ∧ t.follower.follow = .following ∧ t.follower.expected = some 100 ∧
        t.follower.inProgress = none ∧ t.follower.transfer = some tr ∧ decodeOrder (t.word 100) = p.2) ∧
    [Order.line, .jump 4096, .pass 0 1 42, .text 2 7, .pass 1 6 0].map Order.words = [1, 1, 1, 4, 2] ∧
    ∀ tr ∈ [Transfer.jump 9, .call 4096 true, .ret],
      ∀ p ∈ [textOrder, { textOrder with fetched := 3 }, { textOrder with order := .pass 1 1 42, words := 2 }],
        let s := nested 1 (followedAt 101 [(101, 0x4B4E55)])
        let t := s.setFollower { s.follower with transfer := some tr, inProgress := some p }
        PassingGranted t ∧ t.follower.follow = .following ∧ t.follower.expected = some 101 ∧
        t.follower.inProgress = some p ∧ t.follower.transfer = some tr ∧
        (p.fetched + 1 = p.words ∨ p.fetched = 1 ∧ p.words = 4) := by decide

/-- NameRenamesTheInnermostLevel: NAME 42 at level 0 and at the deepest level, and NAME 0. -/
theorem witness_name :
    (∀ n ∈ [0, 7],
      let s := nested n (followedAt 100 [(100, 0x90102A)])
      PassingGranted s ∧ s.follower.follow = .following ∧ s.follower.expected = some 100 ∧
      s.follower.inProgress = none ∧ s.follower.transfer = none ∧ s.word 100 = 0x90102A) ∧
    decodeOrder 0x90102A = .pass 0 1 42 ∧ decodeOrder 0x901000 = .pass 0 1 0 := by decide

/-- A GATE order with its order word fetched. -/
def gateOrder : InProgress :=
  { addr := 100, order := .pass 1 6 0, words := 2, fetched := 1, stored := [0x926000], name := 0, path := [0]
    menu := false }

/-- A SEGMENT order of two arguments with some of its words fetched. -/
def segmentOrder (stored : List Word) : InProgress :=
  { addr := 100, order := .pass 2 2 300, words := 3, fetched := stored.length, stored := stored, name := 0, path := [0]
    menu := false }

/-- PassOrderIsHandedOverAtItsLastWord: a NAME and the order word of a GATE, in and outside a slot; and the first and
the last argument of a SEGMENT. -/
theorem witness_pass_order :
    (∀ tr ∈ [none, some Transfer.ret], ∀ p ∈ [(0x90102A#24, 0, 1, 42#12), (0x926000, 1, 6, 0)],
      let s := nested 1 (followedAt 100 [(100, p.1)])
      let t := s.setFollower { s.follower with transfer := tr }
      PassingGranted t ∧ t.follower.follow = .following ∧ t.follower.expected = some 100 ∧
      t.follower.inProgress = none ∧ decodeOrder (t.word 100) = .pass p.2.1 p.2.2.1 p.2.2.2) ∧
    (∀ p ∈ [segmentOrder [0x92212C], segmentOrder [0x92212C, 0x5AA000]],
      let s := followedAt 101 [(101, 0x0000AF)]
      let t := s.setFollower { s.follower with inProgress := some p }
      PassingGranted t ∧ t.follower.follow = .following ∧ t.follower.expected = some 101 ∧
      t.follower.inProgress = some p ∧ t.follower.transfer = none ∧ p.order = .pass 2 2 300 ∧ p.words = 1 + 2 ∧
      1 ≤ p.fetched ∧ p.menu = false) ∧
    [(segmentOrder [0x92212C]).fetched, (segmentOrder [0x92212C, 0x5AA000]).fetched] = [1, 2] := by decide

/-- R24, R30: a SEGMENT of two arguments is handed over at its last word, and not before. -/
theorem test_pass_order_at_its_last_word :
    let at_ := fun p =>
      let s := followedAt 101 [(101, 0x0000AF)]
      s.setFollower { s.follower with inProgress := some p }
    let t := fun p => (after (exec (.dRead 101 0 0) (at_ p))).segments.entries.map
      (fun e => (e.name, e.active.priority))
    t (segmentOrder [0x92212C]) = [] ∧ t (segmentOrder [0x92212C, 0x5AA000]) = [(300, 5)] := by decide

/-- PassOrderIsHandedOverAtItsLastWord, a GATE of one argument: any argument, all ones and 0 among them. -/
theorem witness_gate_order (w : Word) :
    let s := (followedAt 101 [(100, 0x926000), (101, w)]).setFollower
      { State.reset.follower with follow := .following, expected := some 101, inProgress := some gateOrder }
    PassingGranted s ∧ s.follower.follow = .following ∧ s.follower.expected = some 101 ∧
    s.follower.inProgress = some gateOrder ∧ s.follower.transfer = none ∧ s.word 101 = w ∧
    decodeOrder 0x926000 = gateOrder.order :=
  ⟨⟨⟨⟨rfl, rfl, rfl⟩, rfl, rfl⟩, .inl (Nat.zero_lt_succ 7)⟩, rfl, rfl, rfl, rfl, rfl, by decide⟩

/-! ### Witnesses: PASS orders -/

/-- A name beyond a table's is not in it. -/
theorem tabled_find (n m : Nat) (h : n < m) (hm : m < 4096) (seen : FrameNo) :
    (tabled n seen).segments.find (BitVec.ofNat 12 m) = none := by
  simp only [SegmentTable.find, tabled, State.setSegments_segments, List.find?_eq_none, List.mem_map,
    List.mem_range]
  rintro e ⟨i, hi, rfl⟩ he
  have := congrArg BitVec.toNat (eq_of_beq he)
  simp only [segment, BitVec.toNat_ofNat] at this
  omega

/-- SegmentOrderCreatesAnEntry: an empty table, and one with room for one more. -/
theorem witness_segment_created :
    ((tabled 0 0).segments.find 128 = none ∧ (tabled 0 0).segments.entries.length < 128) ∧
    (tabled 127 0).segments.find 128 = none ∧ (tabled 127 0).segments.entries.length < 128 :=
  ⟨⟨rfl, by decide⟩, tabled_find 127 128 (by decide) (by decide) 0, by simp [tabled]⟩

/-- A SEGMENT order's arguments written out by 12.2: class MENU, LOCKED, priority 5, BRIGHT with boost 4; separator '/'
with trigger DWELL. Later ones of argument 1 alone keep the part under MENU, and give DRAW its own. -/
theorem test_segment_arguments :
    let t := handOff 0 2 2 300 [0x92212C, 0x5AA000, 0x0000AF] (tabled 0 0)
    let later := fun w => attributesOf (segmentsFrameEnd (handOff 0 1 2 300 [0x91212C, w] t)) 300
    attributesOf t 300 = { classPart := .menu 0x2F .dwell, sensitivity := .locked, priority := 5
                           highlight := .bright, boost := 4 } ∧
    later 0x400000 = { classPart := .menu 0x2F .dwell, sensitivity := .pick, priority := 0
                       highlight := .none, boost := 1 } ∧
    (later 0x000000).classPart = .draw := by decide

/-- The entries of the helper's table are sound. -/
theorem tabled_sound (n : Nat) (h : n ≤ 128) (seen : FrameNo) : SegmentsSound (tabled n seen).segments := by
  have inj : ∀ i < n, ∀ j < n, BitVec.ofNat 12 (i + 1) = BitVec.ofNat 12 (j + 1) → i = j := by
    intro i hi j hj he
    have := congrArg BitVec.toNat he
    simp only [BitVec.toNat_ofNat] at this
    omega
  constructor
  · simpa [tabled] using h
  · simp only [tabled, State.setSegments_segments, List.map_map]
    refine List.Nodup.map_on ?_ List.nodup_range
    intro i hi j hj he
    exact inj i (List.mem_range.1 hi) j (List.mem_range.1 hj) he
  · intro e he
    simp only [tabled, State.setSegments_segments, List.mem_map, List.mem_range] at he
    obtain ⟨i, hi, rfl⟩ := he
    intro h0
    have := congrArg BitVec.toNat h0
    rw [segment, BitVec.toNat_ofNat, show (0 : Name).toNat = 0 from rfl] at this
    omega
  · intro e he
    simp only [tabled, State.setSegments_segments, List.mem_map] at he
    obtain ⟨i, _, rfl⟩ := he
    constructor <;> simp [segment, Attributes.default]
  · intro e he
    simp only [tabled, State.setSegments_segments, List.mem_map] at he
    obtain ⟨i, _, rfl⟩ := he
    intro a ha
    cases ha

/-- A table whose one entry has a class part. -/
def shownAs (part : ClassPart) : State :=
  State.reset.setSegments { State.reset.segments with
    entries := [segment 1 { Attributes.default with classPart := part } 0] }

/-- SegmentOrderIsShadowedUntilFrameEnd and RankingIsByPriorityThenLatest: a table that holds the name, and for a
READOUT order a name not held, a READOUT entry and another. -/
theorem witness_segment_shadowed :
    SegmentsSound (tabled 1 0).segments ∧
    (tabled 1 0).segments.find 1 = some (segment 1 .default 0) ∧ (segment 1 .default 0).dropPending = false ∧
    (tabled 1 0).segments.find 2 = none ∧
    ∀ c ∈ [ClassPart.readout .default, .draw],
      (shownAs c).segments.find 1 = some (segment 1 { Attributes.default with classPart := c } 0) :=
  ⟨tabled_sound 1 (by decide) 0, by decide⟩

/-- FullTableEvictsTheOldest: a full table whose every entry is two frames old, and one whose every entry is one frame
old. -/
theorem witness_full_table :
    let aged := fun n : FrameNo => (tabled 128 0).setFollower { State.reset.follower with frameNo := n }
    let eligible := fun (s : State) (x : Segment) =>
      2 ≤ (s.follower.frameNo - x.lastSeen).toNat ∧ (∀ v ∈ s.gate.tally, v.key.name ≠ x.name) ∧
      s.tracker.active.crossName ≠ x.name ∧ s.echo.picked ≠ some x.name
    (∀ n, SegmentsSound (aged n).segments ∧ (aged n).segments.entries.length = 128 ∧
      (aged n).segments.find 300 = none) ∧
    (∃ x ∈ (aged 2).segments.entries, eligible (aged 2) x) ∧
    ∀ x ∈ (aged 1).segments.entries, ¬eligible (aged 1) x := by
  refine ⟨fun n => ⟨tabled_sound 128 (by decide) 0, by simp [tabled], tabled_find 128 300 (by decide) (by decide) 0⟩,
    ⟨segment 1 .default 0, List.mem_map.2 ⟨0, by simp, rfl⟩, by decide, by simp [tabled, State.reset, GateUnit.reset],
      by decide, by decide⟩, ?_⟩
  intro x hx h
  obtain ⟨i, _, rfl⟩ := List.mem_map.1 hx
  exact absurd h.1 (by simp [segment])

/-- ProtectedOrderIsRefused: the lowest protected address, with the flag clear and set; the highest honoured one; and
with straps of 0 the last address of the store. -/
theorem witness_protected :
    (∀ b ∈ [false, true],
      let s := State.reset.setPass { State.reset.pass with straps := 1, protectedReported := b }
      s.pass.straps ≠ 0 ∧ 16384 * s.pass.straps.toNat ≤ (16384#18).toNat ∧ s.pass.protectedReported = b ∧
      Honoured s 16383) ∧
    State.reset.pass.straps = 0 ∧ Honoured State.reset 262143 := by decide

/-- CommandIsTakenOnce: a listed address, a full list, and a command to be taken. -/
theorem witness_command :
    (∃ c ∈ (taken 1).pass.consumption, c.addr = 0) ∧ 4 ≤ (taken 4).pass.consumption.length ∧
    (∀ c ∈ (taken 3).pass.consumption, c.addr ≠ 9) ∧ (taken 3).pass.consumption.length < 4 := by decide

theorem crossed_sound : TrackSettingsSound crossed := by constructor <;> decide

/-- CommandIsTakenOnce: START-TRACK with its argument and with the last pick, STOP-TRACK of a run, and DROP-SEGMENT of a
name held. -/
theorem witness_accepted_commands :
    let pick : LastPick := { sampleX := 0, sampleY := 1023, loftA := 0, loftB := 0, side := .none }
    let s := (State.reset.setTracker { State.reset.tracker with active := crossed }).setGate
      { State.reset.gate with lastPick := some pick }
    (s.tracker.active.crossName ≠ 0 ∧ s.tracker.state = .off ∧ s.tracker.active = crossed ∧
      [0x918100#24, 0x07824E][1]? = some 0x07824E ∧ [0x908100#24][1]? = none ∧ s.gate.lastPick = some pick) ∧
    (s.setTracker { s.tracker with state := .lost }).tracker.state ≠ .off ∧
    [0x918500#24, 1][1]? = some 1 ∧ (0x000001#24).extractLsb' 0 12 ≠ 0 ∧
    (tabled 1 0).segments.find ((0x000001#24).extractLsb' 0 12) ≠ none := by decide

/-- RefusedCommandOnlyReports: each refusal. -/
theorem witness_refusals :
    let s := State.reset.setTracker { State.reset.tracker with active := crossed }
    let t := s.setTracker { s.tracker with state := .lost }
    ((∀ c ∈ State.reset.pass.consumption, c.addr ≠ 9) ∧ State.reset.pass.consumption.length < 4) ∧
    State.reset.tracker.active.crossName = 0 ∧
    (t.tracker.active.crossName ≠ 0 ∧ t.tracker.state ≠ .off) ∧
    (s.tracker.active.crossName ≠ 0 ∧ s.tracker.state = .off ∧ [0x908100#24].length < 2 ∧ s.gate.lastPick = none) ∧
    State.reset.tracker.state = .off ∧
    (∀ w, argument [0x928500#24, 42] 1 = some w →
      bitsAt w 0 12 = 0 ∨ State.reset.segments.find (bitsAt w 0 12) = none) ∧
    8 ≤ (8#4).toNat := by
  refine ⟨by decide, by decide, by decide, by decide, by decide, ?_, by decide⟩
  intro w _
  exact Or.inr rfl

/-- RingOrderIsCheckedWhole, at the last honoured address of the highest boundary: the last ring of two slots that
fits, a base off its multiple, and a ring one slot too long. -/
theorem witness_ring :
    Honoured (State.reset.setPass { State.reset.pass with straps := 15 }) 245759 ∧
    (262112 % 16 = 0 ∧ 262112 + 16 * 2 ≤ 262144) ∧ 8 % 16 ≠ 0 ∧
    262144 < 262112 + 16 * 3 ∧ State.reset.reports.ring ≠ some { base := 262112, slots := 2 } ∧
    (reporting [.free, .free, .free, .free] none).reports.ring = some ring4 := by decide

/-- RingOrderIsCheckedWhole, a RING that lacks an argument: with no ring held, with an active ring, with a pending ring
alone, and with a pending ring of another base than the active one's. -/
theorem witness_ring_lacking :
    let held := fun (active pending : Option Ring) => { State.reset.reports with ring := active, shadow := pending }
    let present := fun (w : ReportWriter) => if w.shadow.isSome then w.shadow else w.ring
    let base := fun (w : ReportWriter) (ws : List Word) =>
      fieldOr ws 1 ((present w).map (·.base)) (fun x => some (x.extractLsb' 0 18))
    let slots := fun (w : ReportWriter) (ws : List Word) =>
      fieldOr ws 2 ((present w).map (·.slots)) (fun x => some (max 1 (min 63 (x.extractLsb' 0 6).toNat) + 1))
    let other : Ring := { base := 16, slots := 2 }
    RingSound ring4 ∧ RingSound other ∧
    (∀ ws ∈ [[0x910000#24], [0x910000, 32]], slots (held none none) ws = none) ∧
    (base (held none none) [0x910000] = none ∧ base (held none none) [0x910000, 32] = some 32) ∧
    (∀ p ∈ [(held (some ring4) none, ring4), (held none (some ring4), ring4), (held (some ring4) (some other), other)],
      base p.1 [0x910000] = some p.2.base ∧ slots p.1 [0x910000] = some p.2.slots ∧
      base p.1 [0x910000, 32] = some 32 ∧ slots p.1 [0x910000, 32] = some p.2.slots) := by
  refine ⟨⟨by decide, by decide, by decide⟩, ⟨by decide, by decide, by decide⟩, by decide⟩

/-- R31, R36, R39: a RING without arguments is the pending ring again, else the active one, which empties the shadow,
and is invalid when neither is held; one without its slot count takes that from the ring held. -/
theorem test_ring_lacking :
    let s := reporting [.free, .free, .free, .free] none
    let none_ := handOff 100 0 16 0 [0x910000] State.reset
    none_.reports.queue.map (·.code) = [some 3] ∧ none_.reports.shadow = none ∧
    (handOff 100 0 16 0 [0x910000] s).reports.shadow = none ∧
    (handOff 100 1 16 0 [0x910000, 32] s).reports.shadow = some { base := 32, slots := 4 } := by decide

/-! ### Witnesses: the pen -/

/-- PhotoEdgePulsesOrNot: an edge accepted and, in WAITING, refused; the copies not yet agreeing after an entry to LOST;
and for each edge mode a level that gives no pulse, but for ANY. -/
theorem witness_photo :
    let s := drawn []
    let lost := after (exec (.dRead 5 0 0) (drawn [lineAt 3120 51]))
    (((!s.pins.photo) != s.pen.active.photoInvert) = true ∧ s.pen.active.edgeMode = .rising ∧
      Settled s ∧
      s.follower.history = [] ∧ CopiesSound s ∧ s.follower.follow = .following ∧ s.follower.display = .running ∧
      s.pen.active.inhibitMode = .level ∧ s.pins.pinh = false ∧ s.pen.lastStrike = none ∧
      s.pen.strikes < s.pen.active.strikeLimit) ∧
    (Settled State.reset ∧ CopiesSound State.reset ∧ State.reset.follower.follow ≠ .following) ∧
    (Settled lost ∧ ¬CopiesSound lost ∧ lost.follower.history = [] ∧ lost.pen.followCopy = .following ∧
      lost.follower.follow ≠ .following) ∧
    ∀ p ∈ [(EdgeMode.rising, true), (.level, true), (.falling, false)],
      let t := (s.setPins { s.pins with photo := p.2 }).setPen { s.pen with
        active := { s.pen.active with edgeMode := p.1 } }
      Settled t ∧ t.pen.active.edgeMode = p.1 ∧ ((!t.pins.photo) != t.pen.active.photoInvert) = !p.2 := by decide

/-- A state whose next change of PHOTO is an accepted strike. -/
def ready (h : List HistoryEntry) : State :=
  (drawn h).setPen { (drawn h).pen with active := { (drawn h).pen.active with edgeMode := .any } }

/-- StrikeVotesForTheNewestStroke: an older stroke of the same window under another name, at a CLOSED gate and with a
Tally that holds the key, has room, and is full of others. -/
theorem witness_strike :
    let key := fun (n : Nat) => ({ name := BitVec.ofNat 12 n, item := none } : Key)
    let entry := fun (n : Nat) => ({ vote 51 1 false with key := key n } : TallyEntry)
    let t := ready [lineAt 3110 50, lineAt 3120 51]
    (StrikeReady t ∧ Settled t ∧
      t.follower.history = [lineAt 3110 50] ++ [lineAt 3120 51] ∧ menuText (lineAt 3120 51) = none ∧
      (∀ h ∈ t.follower.history, ¬UnderCross t h) ∧ (attributesOf t 51).sensitivity ≠ .blind ∧
      (attributesOf t 51).priority ≤ 7 ∧ (attributesOf t 50).priority ≤ (attributesOf t 51).priority ∧
      t.gate.gate = none ∧ (t.time - 0).toNat < 8388608) ∧
    ∀ l ∈ [[], [50, 51], [1, 2, 3, 4, 5, 6, 7], [1, 2, 3, 4, 5, 6, 7, 8]],
      let g := (opened 0 (l.map entry)).gate
      (t.setGate g).gate.gate.isSome ∧ g.tally.length = l.length ∧
      ((∃ v ∈ g.tally, v.key = key 51) ↔ 51 ∈ l) := by decide

/-- A menu segment 300 of a trigger, with its text in the Menu Map and in the Fetch History. -/
def menuShown (trigger : Trigger) : State :=
  ((ready [lineAt 3110 50, menuAt]).setMenuMap [menu7000]).setSegments { State.reset.segments with
    entries := [segment 300 { Attributes.default with classPart := .menu 0x7C trigger } 0] }

/-- StrikeVotesForTheNewestStroke: a menu item under the beam at 120, of either trigger, at a CLOSED and at an OPEN
gate. -/
theorem witness_strike_item :
    ∀ p ∈ [Trigger.tip, .dwell], ∀ g ∈ [State.reset.gate, (opened 0 []).gate],
      let t := (menuShown p).setGate g
      StrikeReady t ∧ Settled t ∧
      t.follower.history = [lineAt 3110 50] ++ [menuAt] ∧ menuText menuAt = some (menuPart 3 3) ∧
      yieldedItem t.menuMap menuAt (menuPart 3 3) 120 = some (1, { start := 2, length := 1 }) ∧
      (∀ h ∈ t.follower.history, ¬UnderCross t h) ∧ (attributesOf t 300).sensitivity ≠ .blind ∧
      (attributesOf t 300).classPart = .menu 0x7C p ∧ (attributesOf t 300).priority ≤ 7 ∧
      (attributesOf t 50).priority ≤ (attributesOf t 300).priority ∧ t.gate.active.hover = true := by decide

/-- R106: a vote cast by a result taken before the invalidation notice is marked STALE by it, and one cast by a result
taken after it is not. R104: a result of a strike before the gate opened casts no vote. -/
theorem test_result_beside_a_notice :
    let s := attributeStrike 120 0 ((menuShown .tip).setGate (opened 0 []).gate)
    let later := s.setGate { s.gate with gate := s.gate.gate.map (fun g => { g with openTime := 1 }) }
    let stale := fun (t : State) => t.gate.tally.map (fun e => e.latest.stale)
    s.handed.gate.map (·.key) = [{ name := 300, item := some 1 }] ∧
    stale (gateInvalidated 7000 (gateResultsTake 1 s)) = [true] ∧
    stale (gateResultsTake 1 (gateInvalidated 7000 s)) = [false] ∧ stale (gateResultsTake 1 later) = [] := by decide

/-- R148: a cross result of a strike judged under TRACKING is discarded once the run has ended, and is no sighting;
taken before the end, it moves the position. -/
theorem test_cross_result_beside_the_end_of_a_run :
    let s := ready [lineAt 6200 12]
    let t := attributeStrike 310 702 (s.setTracker { (tracked .tracking).tracker with active := crossed })
    let place := fun (u : State) => (u.tracker.state, u.tracker.tx, u.tracker.ty, u.tracker.sightedThisFrame)
    t.handed = { gate := [], tracker := [.result 0 310 702] } ∧
    place (crossResultsTake 1 (endRun .tip t)) = (.off, 300, 700, false) ∧
    place (endRun .tip (crossResultsTake 1 t)) = (.off, 305, 700, false) := by decide

/-- StrikeVotesForTheNewestStroke, the Gate Unit's taking: a result of a strike before the gate opened, and a CLOSED
gate with a key that is no item's. -/
theorem witness_result_taken :
    let w := { itemWinner with time := 0xFFFFFF }
    (opened 0 []).gate.gate.isSome ∧ 8388608 ≤ (w.time - 0).toNat ∧ State.reset.gate.gate = none ∧
    { itemWinner with key := { name := 51, item := none } }.key.item = none := by decide

/-- StrikeVotesForTheNewestStroke: the cross beside a stroke that wins, and alone, in OFF and in a run. -/
theorem witness_strike_cross :
    ∀ st ∈ [TrackState.off, .tracking], ∀ h ∈ [lineAt 6200 12, lineAt 3120 51],
      let s := ready [lineAt 6200 12, h]
      let t := s.setTracker { s.tracker with active := crossed, state := st }
      StrikeReady t ∧ Settled t ∧ t.follower.history = [lineAt 6200 12] ++ [h] ∧ UnderCross t (lineAt 6200 12) ∧
      (t.time - (lineAt 6200 12).fetchTime).toNat ≤ t.pen.active.tLW ∧ t.tracker.state = st ∧
      (UnderCross t h ∨ ¬UnderCross t h ∧ (attributesOf t h.name).sensitivity ≠ .blind) := by decide

/-- RepetitionExpiryPulsesAgain: an interval that has just run out, accepted, refused, and with the copies not yet
agreeing, and one a microsecond before its end. -/
theorem witness_repetition :
    let i : Interval := { since := 0, length := 12 }
    let s := (drawn []).setPen { (drawn []).pen with repetition := some i }
    let t := s.setTime 12
    let lost := t.setFollower { t.follower with follow := .lost }
    (t.pen.repetition = some i ∧ i.length ≤ (t.time - i.since).toNat ∧ t.follower.history = [] ∧
      pulseAccepted t = true ∧ CopiesSound t ∧ Settled t) ∧
    pulseAccepted (t.setPins { t.pins with pinh := true }) = false ∧
    (¬CopiesSound lost ∧ Settled lost ∧ lost.pen.repetition = some i ∧ lost.follower.history = []) ∧
    ((s.setTime 11).time - i.since).toNat < i.length := by decide

/-- DiscardInhibitAndTipEvents: a record exactly 63 µs old. -/
theorem witness_discard :
    let s := (State.reset.setTime 63).setPen { State.reset.pen with lastStrike := some 0 }
    s.pen.lastStrike = some 0 ∧ 63 ≤ (s.time - 0).toNat := by decide

/-- DebounceExpiryMakesTipEvents: the interval just run out at a tip UP without a sighting, with one and all that a run
needs, and with one and no cross name, no record or a run going on; and at a tip DOWN with a run and an open gate, its
Tally empty, and won by a segment and by an item. -/
theorem witness_debounce :
    let i : Interval := { since := 0, length := 6000 }
    let c : CrossRecord := { addr := 6200, word := 0x07824E, fetchedThisFrame := true, substituted := false }
    let s := (State.reset.setTime 6000).setPen { State.reset.pen with debounce := some i }
    let t := s.setTracker { s.tracker with active := crossed, sightedLastFrame := true, cross := some c }
    let u := (s.setPen { s.pen with tip := .down }).setTracker { s.tracker with
      active := crossed, state := .lost, cross := some { c with substituted := true } }
    (s.pen.debounce = some i ∧ i.length ≤ (s.time - i.since).toNat ∧ s.pen.tip = .up ∧ s.gate.gate = none ∧
      Settled s ∧
      s.tracker.sightedThisFrame = false ∧ s.tracker.sightedLastFrame = false) ∧
    (Settled t ∧ t.pen.debounce = some i ∧ t.pen.tip = .up ∧ t.gate.gate = none ∧ t.tracker.state = .off ∧
      t.tracker.active = crossed ∧ crossed.crossName ≠ 0 ∧ t.tracker.sightedLastFrame = true ∧
      t.tracker.cross = some c) ∧
    (∀ r ∈ [{ t.tracker with active := TrackSettings.powerUp }, { t.tracker with cross := none },
        { t.tracker with state := .tracking }],
      let v := t.setTracker r
      v.tracker.sightedLastFrame = true ∧
      (v.tracker.state ≠ .off ∨ v.tracker.active.crossName = 0 ∨ v.tracker.cross = none)) ∧
    (Settled u ∧ u.pen.debounce = some i ∧ u.pen.tip = .down ∧ u.tracker.state ≠ .off) ∧
    ∀ l ∈ [[], [vote 51 4 false], [vote 51 4 true], [itemVote false false], [itemVote false true],
        [itemVote true false]],
      (u.setGate (opened 3 l).gate).gate.gate.isSome ∧ tallyWinner 0 (opened 3 l).gate.tally = l.head? := by decide

/-- DebounceExpiryMakesTipEvents and CrossStrikeMovesOneAxis, at the end of the interval: a sighting still to be taken
at a tip-down, one that finds a run going on, and a winner result and a cross result still to be taken at a tip-up. -/
theorem witness_debounce_in_flight :
    let i : Interval := { since := 0, length := 6000 }
    let c : CrossRecord := { addr := 6200, word := 0x07824E, fetchedThisFrame := true, substituted := false }
    let s := (State.reset.setTime 6000).setPen { State.reset.pen with debounce := some i }
    let t := (s.setTracker { s.tracker with active := crossed, cross := some c }).setHanded
      { gate := [], tracker := [.sighting 6000] }
    let down := s.setPen { s.pen with tip := .down }
    let u := (down.setGate (opened 3 []).gate).setHanded { gate := [itemWinner], tracker := [] }
    let v := (down.setTracker (tracked .tracking).tracker).setHanded { gate := [], tracker := [.result 6000 310 702] }
    (t.pen.debounce = some i ∧ i.length ≤ (t.time - i.since).toNat ∧ t.pen.tip = .up ∧ NoticesTaken t ∧
      t.tracker.state = .off ∧ t.tracker.active.crossName ≠ 0 ∧ t.tracker.cross = some c ∧
      t.tracker.sightedThisFrame = false ∧ t.tracker.sightedLastFrame = false ∧ t.gate.gate = none) ∧
    (tracked .lost).tracker.state ≠ .off ∧
    (u.pen.debounce = some i ∧ u.pen.tip = .down ∧ NoticesTaken u ∧ u.gate.gate.isSome ∧
      u.handed = { gate := [itemWinner], tracker := [] }) ∧
    (v.pen.debounce = some i ∧ v.pen.tip = .down ∧ NoticesTaken v ∧ v.tracker.state ≠ .off ∧
      v.handed = { gate := [], tracker := [.result 6000 310 702] }) ∧
    State.reset.tracker.state = .off := by decide

/-- The item votes of the witnesses are of an item, neither LOCKED nor STALE, STALE, and LOCKED. -/
theorem itemVote_fields :
    ∀ p ∈ [(false, false), (false, true), (true, false)],
      (itemVote p.1 p.2).key.item = some 2 ∧
      (itemVote p.1 p.2).latest.item = some { textAddr := 7000, start := 13, length := 5 } ∧
      (itemVote p.1 p.2).latest.locked = p.1 ∧ (itemVote p.1 p.2).latest.stale = p.2 := by decide

/-- FrameTimeoutStopsTheDisplay: the timeout exactly at tFT, with an open gate of each winner and a run. -/
theorem witness_timeout :
    ∀ l ∈ [[], [vote 51 4 false], [vote 51 4 true], [itemVote false false], [itemVote false true],
        [itemVote true false]],
      let s := ((State.reset.setTime 100000).setGate (opened 3 l).gate).setTracker
        { State.reset.tracker with state := .tracking }
      Settled s ∧ s.follower.timeoutArmed = true ∧ s.follower.display = .running ∧
      s.follower.tFT * 1000 ≤ (s.time - s.follower.timeoutSince).toNat ∧ s.gate.gate.isSome ∧
      tallyWinner 0 s.gate.tally = l.head? ∧ s.tracker.state ≠ .off := by decide

/-! ### Witnesses: counts of frames -/

/-- An open gate one frame below its length, with at most one vote, is sound. -/
theorem opened_sound (l : List TallyEntry) (hl : l.length ≤ 1) (hv : ∀ e ∈ l, 1 ≤ e.votes) :
    GateSound (opened 3 l).gate := by
  constructor <;> simp [opened, State.reset, GateUnit.reset, GateSettings.powerUp, DwellRecord.empty]
  · constructor <;> simp
  · omega
  · match l, hl with
    | [], _ => simp
    | [_], _ => simp
  · exact hv

/-- GateClosesByLength. Inside the D_READ, with `witness_at_restart` and `opened_sound`: a gate one frame below its
length of 4. By the row: a count at the length with an empty Tally, with a winner, with a LOCKED one and with the items
of `itemVote_fields`, and a count below it. -/
theorem witness_close_by_length :
    (∀ l ∈ [[], [vote 51 4 false], [vote 51 4 true], [itemVote false false], [itemVote false true],
        [itemVote true false]],
      (opened 3 l).gate.gate.isSome ∧ (opened 3 l).gate.active.length ≤ 3 + 1 ∧
      tallyWinner 0 (opened 3 l).gate.tally = l.head? ∧ tallyWinner 0 (opened 4 l).gate.tally = l.head? ∧
      (∀ e ∈ restarting.segments.entries, e.dropPending = false)) ∧
    Settled (opened 4 []) ∧ (opened 4 []).gate.gate.isSome ∧ (opened 4 []).gate.tally = [] ∧
    tallyWinner 0 (opened 4 [vote 51 4 false]).gate.tally = some (vote 51 4 false) ∧
    (vote 51 4 false).latest.locked = false ∧ (vote 51 4 false).key.item = none ∧
    tallyWinner 0 (opened 4 [vote 51 4 true]).gate.tally = some (vote 51 4 true) ∧
    (vote 51 4 true).latest.locked = true ∧ (4 : Nat) ≤ 4 ∧ (3 : Nat) < 4 := by decide

/-- DwellIsReportedOnce. Inside the D_READ, with `witness_at_restart`: an unspent item key won again, one frame below
the dwell of 6. By the row: an unspent item key at its dwell, and one frame before it. -/
theorem witness_dwell :
    let i : ItemDesc := { textAddr := 7000, start := 13, length := 5 }
    let key : Key := { name := 300, item := some 2 }
    let held := fun (d : DwellRecord) => ({ State.reset.gate with
      dwell := { d with key := some key, snapshot := some (someSnapshot (some i) false) } } : GateUnit)
    (let g := held { DwellRecord.empty with count := 5, won := true }
     g.gate = none ∧ g.dwell.key = some key ∧ key.item.isSome = true ∧
     g.dwell.snapshot = some (someSnapshot (some i) false) ∧ g.dwell.spent = false ∧ g.dwell.won = true ∧
     g.active.dwell ≤ g.dwell.count + 1) ∧
    ∀ n ∈ [1, 2],
      let g := held { DwellRecord.empty with count := n, comparedDwell := 2 }
      Settled (State.reset.setGate g) ∧
      g.gate = none ∧ g.dwell.key = some key ∧ g.dwell.snapshot = some (someSnapshot (some i) false) ∧
      g.dwell.spent = false ∧ (g.dwell.comparedDwell ≤ g.dwell.count ∨ n = 1) := by decide

/-- LossAndEchoLimits. Inside the D_READ, with `witness_at_restart` and `witness_restart`: a run one count below its
limit of 5, and one that goes on, its position moved. By the rows: a run at its loss limit, and an item echo at 0 and
at 1. -/
theorem witness_limits :
    let run := fun n => State.reset.setTracker { State.reset.tracker with state := .tracking, lossCount := n }
    let echo := fun n => State.reset.setEcho { State.reset.echo with
      item := some { textAddr := 7000, start := 13, length := 5, frames := n } }
    ((run 4).tracker.crossStruck = false ∧ (run 4).tracker.active.lossLimit ≤ min 15 (4 + 1)) ∧
    (min 15 (3 + 1) < (run 3).tracker.active.lossLimit ∧
      (run 3).tracker.lastReported ≠ some ((run 3).tracker.tx, (run 3).tracker.ty)) ∧
    (Settled (run 5) ∧
      (run 5).tracker.state = .tracking ∧ (run 5).tracker.comparedLoss ≤ (run 5).tracker.lossCount) ∧
    (echo 0).echo.item = some { textAddr := 7000, start := 13, length := 5, frames := 0 } ∧
    (echo 1).echo.item ≠ none := by decide

/-! ### Witnesses: choosing and reckoning -/

/-- EffectiveNameAndPath: seven plain levels, and an opaque level between two others. -/
theorem witness_path :
    let level := fun (b : Bool) => ({ name := 7, returnAddr := 300, opaqueCall := b } : Level)
    ((List.replicate 7 (level false)).length ≤ 7 ∧ ∀ l ∈ List.replicate 7 (level false), l.opaqueCall = false) ∧
    [level false, level true, level true] = [level false] ++ level true :: [level true] ∧
    ∀ l ∈ [level false], l.opaqueCall = false := by decide

/-- CharacterIndexUnderTheBeam: no character fetched, and one. -/
theorem witness_character :
    0 < (menuPart 18 0).pitch ∧ min (menuPart 18 0).count (menuPart 18 0).fetched = 0 ∧
    menuText { lineAt 7000 300 with kind := .text, text := some (menuPart 18 0) } = some (menuPart 18 0) ∧
    0 < min (menuPart 18 1).count (menuPart 18 1).fetched := by decide

/-- WinnerIsTheFirstThatResolves: a menu candidate that yields nothing alone, and before a drawn one; one whose item
is looked up; and no character fetched, no entry, an entry that does not serve, and an index on a separator. -/
theorem witness_winner :
    let menu : HistoryEntry := { lineAt 7000 300 with kind := .text, text := some (menuPart 18 0) }
    let serves := fun (m : MenuEntry) =>
      m.valid = true ∧ m.name = menuAt.name ∧ m.count = (menuPart 3 3).count ∧ 2 < m.scanned
    (menuText menu = some (menuPart 18 0) ∧ yieldedItem State.reset.menuMap menu (menuPart 18 0) 150 = none ∧
      [menu, lineAt 3120 51] = [menu] ++ lineAt 3120 51 :: [] ∧ menuText (lineAt 3120 51) = none) ∧
    (menuText menuAt = some (menuPart 3 3) ∧
      yieldedItem [menu7000] menuAt (menuPart 3 3) 120 = some (1, { start := 2, length := 1 })) ∧
    characterIndex (menuPart 18 0) 150 = none ∧
    [110, 120].map (characterIndex (menuPart 3 3)) = [some 1, some 2] ∧
    (∀ m ∈ State.reset.menuMap, m.addr ≠ menuAt.addr) ∧
    ((∀ o ∈ [{ menu7000 with addr := 6000 }], o.addr ≠ menuAt.addr) ∧ menu7000.addr = menuAt.addr) ∧
    (serves menu7000 ∧
      menu7000.items = [{ start := 0, length := 1 }] ++ ({ start := 2, length := 1 } : Item) :: []) ∧
    (∀ j ∈ menu7000.items, ¬(j.start ≤ 1 ∧ 1 < j.start + j.length)) ∧
    ¬serves { menu7000 with valid := false } ∧ ¬serves { menu7000 with name := 301 } ∧
    ¬serves { menu7000 with count := 4 } ∧ ¬serves { menu7000 with scanned := 2 } := by decide

/-- DecisionTakesTheMostVotes: two keys. -/
theorem witness_decision :
    tallyWinner 0 [vote 51 4 false, vote 52 2 false] = some (vote 51 4 false) ∧
    tallyRunner 0 [vote 51 4 false, vote 52 2 false] (vote 51 4 false) = some (vote 52 2 false) ∧
    tallyRunner 0 [vote 51 4 false] (vote 51 4 false) = none := by decide

/-- RoundingModes: a whole quotient, and quotients below, at and above a half. -/
theorem witness_rounding :
    (0 < 4 ∧ (8 : Int) = 2 * (4 : Nat)) ∧
    ∀ n ∈ [(9 : Int), 10, 11], 2 * ((4 : Nat) : Int) < n ∧ n < (2 + 1) * ((4 : Nat) : Int) := by decide

/-- LoftValuesStayInRange and StationFormIsExact: the settings after power-up, the largest distance, and at the last
frames that are shown and the first that are not. -/
theorem witness_view :
    ViewSettingsSound ViewSettings.powerUp ∧ |(-1206347 : Int)| ≤ 1206347 ∧
    [599999, 600000, -599400, -599401].map (stationFrame ViewSettings.powerUp) = [999, 1000, -999, -1000] := by
  refine ⟨?_, by decide, by decide⟩
  constructor <;> decide

/-- LinearReadoutShowsTheValue: a value that fits its three positions, and one that does not. -/
theorem witness_linear :
    let p : ReadoutPart := { ReadoutPart.default with digits := 6 }
    1 ≤ p.digits ∧ min p.digits (4 - 1) = 3 ∧ (Nat.digits 10 999).length ≤ 3 ∧
    3 < (Nat.digits 10 1000).length := by
  refine ⟨by decide, by decide, ?_, ?_⟩ <;> norm_num

/-- CrossStrikeMovesOneAxis: TRACKING and LOST, a longer X, and a tie. -/
theorem witness_cross_strike :
    (∀ st ∈ [TrackState.tracking, .lost], TrackerSound (tracked st).tracker ∧ (tracked st).tracker.state ≠ .off) ∧
    ((702 : Int) - 700).natAbs < ((310 : Int) - 300).natAbs ∧
    ((310 : Int) - 300).natAbs ≤ ((690 : Int) - 700).natAbs := by
  refine ⟨?_, by decide⟩
  intro st h
  refine ⟨?_, ?_⟩
  · constructor <;> fin_cases h <;>
      simp [tracked, State.reset, Tracker.reset, TrackSettings.powerUp]
    all_goals constructor <;> decide
  · fin_cases h <;> decide

/-- DeliveryAltersOnlyItsFields: a followed ATTR under the picked-segment echo and not under it, a MOVE in a run, an
operand word with no text record, and one of a plain TEXT and of a readout, at first index 0 and beyond, the string held
and not; and the D_READ of an ATTR and of a TEXT operand word. -/
theorem witness_delivery :
    let ctx := fun (o : Order) (n : Nat) =>
      ({ followed := true, addr := 3100, order := o, operand := n, name := 51, path := [51] } : DecodeContext)
    let s := State.reset.setEcho { State.reset.echo with picked := some 51 }
    let text := fun b => State.reset.setEcho { State.reset.echo with
      text := some { addr := 3100, count := 7, name := 51, readout := b } }
    let held : ReadoutString := { addr := 3100, count := 7, entries := [] }
    ((ctx .attr 0).followed = true ∧ s.follower.display = .running ∧ s.echo.picked = some (ctx .attr 0).name ∧
      decodeOrder 0x40000A = .attr) ∧
    (State.reset.echo.picked ≠ some (ctx .attr 0).name ∧ (ctx (.text 2 7) 1).operand ≠ 0 ∧
      ∀ t, State.reset.echo.text = some t → t.addr ≠ (ctx (.text 2 7) 1).addr) ∧
    (let u := followedAt 100 [(100, 0x40000A)]
     PassingGranted u ∧ u.follower.follow = .following ∧ u.follower.expected = some 100 ∧
     u.follower.inProgress = none ∧ decodeOrder (u.word 100) = .attr) ∧
    (let u := followedAt 101 [(101, 0x4B4E55)]
     let v := u.setFollower { u.follower with inProgress := some textOrder }
     PassingGranted v ∧ v.follower.follow = .following ∧ v.follower.expected = some 101 ∧
     v.follower.inProgress = some textOrder ∧ textOrder.order = .text 2 7) ∧
    (tracked .tracking).tracker.state ≠ .off ∧ decodeOrder 0x07824E = .move 480 590 ∧
    ∀ b ∈ [false, true], ∀ n ∈ [1, 2],
      (text b).echo.text = some { addr := (ctx (.text 2 7) n).addr, count := 7, name := 51, readout := b } ∧
      (ctx (.text 2 7) n).operand ≠ 0 ∧
      (text b).loft.readout = none ∧
      ((text b).setLoft { (text b).loft with readout := some held }).loft.readout = some held := by
  refine ⟨by decide, ⟨by decide, by decide, nofun⟩, by decide⟩

/-- A queue of records of some kinds. -/
def queued (l : List ReportKind) : ReportWriter :=
  { ReportWriter.powerUp with queue := l.map (fun k => { kind := k, frame := 0, stamp := 0 }) }

/-- QueueCoalescesTracksAndMarksGaps: each clause's queue. -/
theorem witness_queue :
    (∀ l ∈ [[ReportKind.pick, .track], [.pick, .pick, .pick], [.pick, .pick, .pick, .pick]],
      (queued l).queue.length ≤ 4 ∧
      ((queued l).queue.filter (fun q => q.kind == .track)).length ≤ 1) ∧
    (queued [.pick, .pick, .pick]).queue.length < 4 ∧
    (∀ l ∈ [[ReportKind.pick, .track, .pick, .pick], [.pick, .pick, .pick, .pick]],
      (queued l).queue.length = 4) := by decide

/-! ### Witnesses: the invariants -/

/-- StepKeepsStoreAndTables: stored words at both ends, four listed commands and a full table. -/
theorem witness_store_and_tables :
    let s := ((tabled 128 0).setPass (taken 4).pass).setStore [(0, 1), (262143, 2)]
    StoreSound s ∧ ConsumptionSound s.pass.consumption ∧ SegmentsSound s.segments ∧ ∃ t, step s = .next t :=
  ⟨(by decide : Store.wf [(0, 1), (262143, 2)]), taken_sound, tabled_sound 128 (by decide) 0, _, rfl⟩

/-- StepKeepsFollowerAndPenSound: a followed display file two levels deep with an order in progress, and a pen in
LEVEL mode with its line and its interval active. -/
theorem witness_follower_and_pen :
    let s := nested 7 (drawn [lineAt 100 51])
    let t := (State.reset.setPins { State.reset.pins with photo := true }).setPen { State.reset.pen with
      active := { PenSettings.powerUp with edgeMode := .level }, photoLevel := true
      repetition := some { since := 0, length := 12 } }
    (FollowerSound s.follower ∧ ∃ u, step s = .next u) ∧ PenSound t.pen t.pins ∧ ∃ u, step t = .next u := by
  refine ⟨⟨?_, _, rfl⟩, ?_, _, rfl⟩
  · constructor <;> simp [nested, drawn, lineAt, State.reset, Follower.reset]
  · constructor <;> simp [State.reset, PenSettings.powerUp, conditioned, disagrees]
    constructor <;> simp

/-- StepKeepsMenuEchoAndLoftSound: an entry in the Map, both echoes, and a readout string. -/
theorem witness_menu_echo_and_loft :
    let s := ((State.reset.setMenuMap [menu7000]).setEcho
      { picked := some 51, item := some { textAddr := 7000, start := 2, length := 1, frames := 8 }
        text := none, readouts := [(500, 9100)] }).setLoft { LoftUnit.reset ViewSettings.powerUp with
          readout := some { addr := 9100, count := 1, entries := [none] } }
    MenuMapSound s.menuMap ∧ EchoSound s.echo ∧ LoftSound s.loft ∧ ∃ t, step s = .next t := by
  refine ⟨?_, ?_, ?_, _, rfl⟩
  · constructor <;> simp [menu7000]
    constructor <;> simp [itemsLaidOut]
  · constructor <;> simp
  · constructor <;> simp [LoftUnit.reset]
    exact witness_view.1

/-- StepKeepsGateAndTrackerSound: an open gate one frame below its length with a vote, and a run. -/
theorem witness_gate_and_tracker :
    GateSound (opened 3 [vote 51 4 false]).gate ∧ TrackerSound (tracked .tracking).tracker ∧
    ∃ t, step (tracked .tracking) = .next t :=
  ⟨opened_sound _ (by decide) (by decide), (witness_cross_strike.1 .tracking (by simp)).1, _, rfl⟩

/-- SetupOrdersFillOnlyShadows: a run going on, with straps of 0; `witness_ring` has the highest honoured address. -/
theorem witness_setups :
    let s := tracked .tracking
    Honoured s 262143 ∧ LoftSound s.loft ∧ GateSound s.gate ∧ TrackerSound s.tracker ∧ PenSound s.pen s.pins ∧
    FollowerSound s.follower := by
  refine ⟨.inl rfl, ⟨witness_view.1, by simp [tracked, State.reset, LoftUnit.reset], by
      simp [tracked, State.reset, LoftUnit.reset]⟩, ?_, (witness_cross_strike.1 .tracking (by simp)).1, ?_, ?_⟩
  · constructor <;>
      simp [tracked, State.reset, GateUnit.reset, GateSettings.powerUp, DwellRecord.empty]
    constructor <;> simp
  · constructor <;> simp [tracked, State.reset, PenSettings.powerUp, conditioned, disagrees]
    constructor <;> simp
  · constructor <;> simp [tracked, State.reset, Follower.reset]

/-- StepKeepsReportsSound: `witness_reports_sound`. StepKeepsPassageSound: a P-read waiting behind a claim read. -/
theorem witness_passage :
    let s := atPort (.claim 200016) (reporting [.free, .free, .free, .free] (some .claim))
    let t := (s.setPins { s.pins with mcyc := .read, bwait := true }).setPassage { s.passage with held := [.pRead 5] }
    PassageSound t ∧ ∃ u, step t = .next u := by
  refine ⟨?_, _, rfl⟩
  constructor <;> simp [atPort, reporting, State.reset, Passage.reset]
  exact (by decide : writeOutRequest
    (reporting [.free, .free, .free, .free] (some .claim)).reports = some (.claim 200016))

end Sys2Proof.Tests
end

section
/-! # A creation in a full table (R53 to R55)

The eviction order is a strict order whose negation is transitive, so the fold of `victim` finds an entry before which
no eligible entry comes; a full table with a victim exchanges it for the new entry, and one without refuses. -/

namespace Sys2Proof.Machine

/-! ### The first of a list by a strict order -/

/-- Of the element kept so far and the next, the one to come first; the one kept, when neither comes before the
other. -/
def keepFirst {α : Type} (before : α → α → Bool) (best : Option α) (x : α) : Option α :=
  best.elim (some x) (fun b => if before x b then some x else some b)

/-- A fold that keeps the element to come first ends with one before which no element comes, when the order is
asymmetric and its negation transitive. -/
theorem foldl_keepFirst {α : Type} {before : α → α → Bool}
    (asymm : ∀ x y, before x y = true → before y x = false)
    (negTrans : ∀ x y z, before x y = false → before y z = false → before x z = false) (l : List α) (b : α) :
    ∃ v ∈ b :: l, l.foldl (keepFirst before) (some b) = some v ∧ ∀ x ∈ b :: l, before x v = false := by
  induction l generalizing b with
  | nil =>
    have irrefl : before b b = false := by
      cases h : before b b with
      | false => rfl
      | true => exact h ▸ asymm b b h
    exact ⟨b, by simp, rfl, by simpa using irrefl⟩
  | cons y l ih =>
    rw [List.foldl_cons, keepFirst, Option.elim_some]
    split
    case isTrue hy =>
      obtain ⟨v, hv, hfold, hfirst⟩ := ih y
      refine ⟨v, List.mem_cons_of_mem b hv, hfold, List.forall_mem_cons.2 ⟨?_, hfirst⟩⟩
      exact negTrans b y v (asymm y b hy) (hfirst y (by simp))
    case isFalse hy =>
      obtain ⟨v, hv, hfold, hfirst⟩ := ih b
      obtain ⟨hb, hl⟩ := List.forall_mem_cons.1 hfirst
      have hyv : before y v = false := negTrans y b v (by simpa using hy) hb
      refine ⟨v, ?_, hfold, List.forall_mem_cons.2 ⟨hb, List.forall_mem_cons.2 ⟨hyv, hl⟩⟩⟩
      rcases List.mem_cons.1 hv with rfl | hv <;> simp [*]

/-! ### Who may be evicted, and who first -/

/-- R54: old enough, and neither voted for, tracked nor echoed. -/
theorem evictable_iff (s : State) (e : Segment) :
    evictable s e = true ↔
      2 ≤ e.age s.follower.frameNo ∧ (∀ v ∈ s.gate.tally, v.key.name ≠ e.name) ∧
      s.tracker.active.crossName ≠ e.name ∧ s.echo.picked ≠ some e.name := by
  simp only [evictable, Bool.and_eq_true, decide_eq_true_eq, Bool.not_eq_true', List.any_eq_false,
    bne_iff_ne, beq_iff_eq, ne_eq, and_assoc]

/-- R53: an entry does not come before another when it is younger, or as old and of no lower name. -/
theorem evictedBefore_eq_false_iff (n : FrameNo) (e f : Segment) :
    evictedBefore n e f = false ↔
      e.age n < f.age n ∨ (e.age n = f.age n ∧ f.name.toNat ≤ e.name.toNat) := by
  simp only [evictedBefore, Bool.or_eq_false_iff, Bool.and_eq_false_iff, decide_eq_false_iff_not, beq_eq_false_iff_ne]
  omega

theorem evictedBefore_asymm (n : FrameNo) (e f : Segment) (h : evictedBefore n e f = true) :
    evictedBefore n f e = false := by
  rw [← Bool.not_eq_false, evictedBefore_eq_false_iff] at h
  rw [evictedBefore_eq_false_iff]
  omega

theorem evictedBefore_negTrans (n : FrameNo) (e f g : Segment) (hef : evictedBefore n e f = false)
    (hfg : evictedBefore n f g = false) : evictedBefore n e g = false := by
  rw [evictedBefore_eq_false_iff] at *
  omega

theorem victim_eq_foldl (s : State) :
    victim s =
      (s.segments.entries.filter (evictable s)).foldl (keepFirst (evictedBefore s.follower.frameNo)) none := by
  unfold victim
  congr
  funext best e
  cases best <;> rfl

/-- With none evictable there is no victim. -/
theorem victim_eq_none {s : State} (h : ∀ x ∈ s.segments.entries, ¬evictable s x = true) : victim s = none := by
  simp [victim_eq_foldl, List.filter_eq_nil_iff.2 h]

/-- With one evictable there is a victim: an evictable entry before which no evictable entry comes. -/
theorem victim_eq_some {s : State} (h : ∃ x ∈ s.segments.entries, evictable s x = true) :
    ∃ v ∈ s.segments.entries, victim s = some v ∧ evictable s v = true ∧
      ∀ x ∈ s.segments.entries, evictable s x = true → evictedBefore s.follower.frameNo x v = false := by
  obtain ⟨y, hy, hey⟩ := h
  rw [victim_eq_foldl]
  cases hl : s.segments.entries.filter (evictable s) with
  | nil => exact absurd hey (List.filter_eq_nil_iff.1 hl y hy)
  | cons b l =>
    obtain ⟨v, hv, hfold, hfirst⟩ := foldl_keepFirst (evictedBefore_asymm s.follower.frameNo)
      (evictedBefore_negTrans s.follower.frameNo) l b
    rw [← hl] at hv hfirst
    obtain ⟨hmem, hev⟩ := List.mem_filter.1 hv
    exact ⟨v, hmem, hfold, hev, fun x hx hex => hfirst x (List.mem_filter.2 ⟨hx, hex⟩)⟩

/-! ### The table's entries -/

theorem insertSegment_perm (e : Segment) (l : List Segment) : (insertSegment e l).Perm (e :: l) := by
  induction l with
  | nil => exact .refl _
  | cons x l ih =>
    rw [insertSegment]
    split
    · exact .refl _
    · exact (ih.cons x).trans (.swap e x l)

/-- With never two entries of one name (R49), those not of a held entry's name are one fewer. -/
theorem length_filter_name_ne {l : List Segment} (hd : (l.map (·.name)).Nodup) {v : Segment} (hv : v ∈ l) :
    (l.filter (fun x => x.name != v.name)).length + 1 = l.length := by
  have one : l.countP (fun x => x.name == v.name) = 1 := by
    have := List.count_eq_one_of_mem hd (List.mem_map_of_mem hv)
    rwa [List.count, List.countP_map] at this
  have parts := List.length_eq_countP_add_countP (fun x : Segment => x.name == v.name) (l := l)
  rw [one, List.countP_eq_length_filter] at parts
  simpa [bne, beq_eq_decide, add_comm] using parts.symm

/-! ### The creation -/

section
variable {e : Segment} {a : Addr} {s : State} (full : s.segments.entries.length = 128)
include full

theorem createSegment_of_victim {v : Segment} (h : victim s = some v) :
    createSegment e a s = s.setSegments { s.segments with
      entries := insertSegment e (s.segments.entries.filter (fun x => x.name != v.name)) } := by
  simp [createSegment, full, h]

theorem createSegment_of_no_victim (h : victim s = none) :
    createSegment e a s =
      if s.segments.fullReported then s
      else (requestReport (conditionReport .tableFull (some a) (some e.name) s) s).setSegments
        { s.segments with fullReported := true } := by
  simp [createSegment, full, h]

end

/-- Settles O28: the fold of `victim` finds the oldest evictable entry, and `createSegment` exchanges it or refuses. -/
theorem fullTableEvictsTheOldest : Obligations.FullTableEvictsTheOldest := by
  intro a e s sound full _ age eligible t
  have heligible (x : Segment) : eligible x ↔ evictable s x = true := (evictable_iff s x).symm
  constructor
  · rintro ⟨x, hx, hex⟩
    obtain ⟨v, hv, hvictim, hev, hfirst⟩ := victim_eq_some ⟨x, hx, (heligible x).1 hex⟩
    have ht : t = _ := createSegment_of_victim full hvictim
    have hperm := insertSegment_perm e (s.segments.entries.filter (fun x => x.name != v.name))
    refine ⟨v, hv, (heligible v).2 hev, fun y hy hey => ?_, ?_, ?_, ?_⟩
    · exact (evictedBefore_eq_false_iff _ y v).1 (hfirst y hy ((heligible y).1 hey))
    · simpa [ht] using hperm
    · simpa [ht, full] using hperm.length_eq.trans (length_filter_name_ne sound.distinct hv)
    · simp [ht]
  · intro hnone
    have hvictim : victim s = none := victim_eq_none fun x hx => mt (heligible x).2 (hnone x hx)
    have ht : t = _ := createSegment_of_no_victim full hvictim
    by_cases hf : s.segments.fullReported = true
    · simp [ht, hf]
    · simp [ht, hf, conditionReport, newReport, Condition.code]

end Sys2Proof.Machine
end

section
/-! # The pen's pulses and its inhibit and tip lines (R66 to R74)

A pulse on an empty Fetch History hands nothing on, so that a judged pulse does no more than count and record the strike
when the five conditions of R68 hold. PHOTO_EDGE and REPETITION_INTERVAL_EXPIRY are then told apart only by the state in
which the pulse is judged, and by whether a change of follow state or display state is still to be taken. -/

namespace Sys2Proof.Machine

/-! ### The conditions of a strike -/

/-- R72, R73: what inhibits is PINH itself in LEVEL mode and the latch in LATCH mode. -/
theorem inhibited_eq_false_iff (s : State) :
    inhibited s = false ↔
      (s.pen.active.inhibitMode = .level → s.pins.pinh = false) ∧
      (s.pen.active.inhibitMode = .latch → s.pen.inhibitLatch = false) := by
  unfold inhibited
  cases s.pen.active.inhibitMode <;> simp

/-- R69. -/
theorem deadTimeAllows_iff (s : State) :
    deadTimeAllows s = true ↔ ∀ t, s.pen.lastStrike = some t →
      s.pen.active.tDT ≤ (s.time - t).toNat ∨ 63 ≤ (s.time - t).toNat := by
  unfold deadTimeAllows
  cases s.pen.lastStrike with
  | none => simp
  | some t =>
    simp only [Bool.or_eq_true, decide_eq_true_eq, Option.some.injEq, forall_eq']
    rfl

/-- The five conditions of R68. -/
theorem pulseAccepted_iff (s : State) :
    pulseAccepted s = true ↔
      s.pen.followCopy = .following ∧ s.pen.displayCopy = .running ∧ inhibited s = false ∧
      deadTimeAllows s = true ∧ s.pen.strikes < s.pen.active.strikeLimit := by
  simp [pulseAccepted, and_assoc]

/-! ### A pulse on an empty Fetch History -/

/-- A strike counted and recorded (R69, R70). -/
def Pen.struck (now : Time) (p : Pen) : Pen := { p with lastStrike := some now, strikes := p.strikes + 1 }

/-- An empty Fetch History gives an empty strike (R80, R81). -/
theorem attributeStrike_of_history_nil {s : State} (x y : Coord) (h : s.follower.history = []) :
    attributeStrike x y s = s := by
  simp [attributeStrike, candidates, underCross, filterCandidates, rankCandidates, firstWinner, h]

theorem judgePulse_of_history_nil {s : State} (h : s.follower.history = []) (taken : ResultsTaken s) :
    judgePulse s = s.setPen (if pulseAccepted s then s.pen.struck s.time else s.pen) := by
  unfold judgePulse
  split_ifs
  · exact (congrArg meetResults (attributeStrike_of_history_nil (s := s.setPen (s.pen.struck s.time)) _ _ h)).trans
      (meetResults_none taken)
  · rfl

theorem changesTaken_iff (s : State) : changesTaken s = true ↔ CopiesSound s := by
  simp [changesTaken]

theorem pulse_of_copiesSound {s : State} (h : CopiesSound s) : pulse s = judgePulse s :=
  if_pos ((changesTaken_iff s).2 h)

/-- A pulse that meets a change still to be taken comes before it or after it. -/
theorem pulse_of_not_copiesSound {s : State} (h : ¬CopiesSound s) :
    ∃ pulseFirst, pulse s = pulseMeeting pulseFirst (afterDraw s) :=
  ⟨drawn s % 2 == 0, if_neg (mt (changesTaken_iff s).1 h)⟩

/-- A pulse on an empty Fetch History that meets a change still to be taken: judged by the copies as they stand, which
stay, or by the two states, which the copies take. -/
theorem pulse_of_history_nil {s : State} (h : s.follower.history = []) (taken : ResultsTaken s)
    (unsound : ¬CopiesSound s) : ∃ pulseFirst : Bool,
      let u := if pulseFirst then s else takeChanges s
      pulse s = (afterDraw s).setPen (if pulseAccepted u then u.pen.struck s.time else u.pen) := by
  obtain ⟨pulseFirst, hp⟩ := pulse_of_not_copiesSound unsound
  refine ⟨pulseFirst, hp.trans ?_⟩
  cases pulseFirst with
  | true => exact judgePulse_of_history_nil (s := afterDraw s) h taken
  | false => exact judgePulse_of_history_nil (s := takeChanges (afterDraw s)) h taken

/-! ### PHOTO_EDGE -/

/-- The state in which an edge's pulse is judged: PHOTO changed, the beam presented, the conditioned level and the
repetition interval renewed (R66, R67, R71). -/
def edgeTaken (x y : Coord) (s : State) : State :=
  let level := conditioned (!s.pins.photo) s.pen.active.photoInvert
  (s.setPins { s.pins with photo := !s.pins.photo, defx := x, defy := y }).setPen { s.pen with
    photoLevel := level
    repetition := if s.pen.active.edgeMode = .level ∧ level = true then some (repetitionNow s) else none }

section
variable {s : State} (x y : Coord) (settled : Settled s)
include settled

theorem exec_photoEdge : exec (.photoEdge x y) s = .next
    (if edgePulses s.pen.active.edgeMode (edgeTaken x y s).pen.photoLevel then pulse (edgeTaken x y s)
      else edgeTaken x y s) := by
  show Host.Outcome.next (photoChange (presentBeam x y (meet s))) = _
  rw [meet_none settled.1 settled.2]
  rfl

theorem exec_photoEdge_of_pulse
    (h : edgePulses s.pen.active.edgeMode (edgeTaken x y s).pen.photoLevel = true) :
    exec (.photoEdge x y) s = .next (pulse (edgeTaken x y s)) := by
  rw [exec_photoEdge x y settled, if_pos h]

theorem exec_photoEdge_of_no_pulse
    (h : ¬edgePulses s.pen.active.edgeMode (edgeTaken x y s).pen.photoLevel = true) :
    exec (.photoEdge x y) s = .next (edgeTaken x y s) := by
  rw [exec_photoEdge x y settled, if_neg h]

end

/-- Settles O34: the edge gives a pulse or not, the copies agree or not, and the judged pulse is a strike or not. -/
theorem photoEdgePulsesOrNot : Obligations.PhotoEdgePulsesOrNot := by
  intro x y s settled level pulses accepted pins pen struck taken
  have pulses_iff : pulses ↔ edgePulses s.pen.active.edgeMode level = true := by
    unfold pulses
    cases s.pen.active.edgeMode <;> simp [edgePulses]
  have accepted_iff (u : State) (hu : u = edgeTaken x y s ∨ u = takeChanges (edgeTaken x y s)) :
      accepted u.pen.followCopy u.pen.displayCopy ↔ pulseAccepted u = true := by
    rw [pulseAccepted_iff, inhibited_eq_false_iff, deadTimeAllows_iff]
    rcases hu with rfl | rfl <;> cases hm : s.pen.active.inhibitMode <;>
      simp [accepted, edgeTaken, hm]
  refine ⟨fun hp nil => ?_, fun hp => exec_photoEdge_of_no_pulse x y settled (mt pulses_iff.2 hp)⟩
  rw [exec_photoEdge_of_pulse x y settled (pulses_iff.1 hp)]
  constructor
  · intro sound
    have h := accepted_iff _ (.inl rfl)
    rw [pulse_of_copiesSound (s := edgeTaken x y s) sound,
      judgePulse_of_history_nil (s := edgeTaken x y s) nil settled.2, ← sound.1, ← sound.2]
    exact ⟨fun ha => if_pos (h.1 ha) ▸ rfl, fun ha => if_neg (mt h.2 ha) ▸ rfl⟩
  · intro unsound
    obtain ⟨pulseFirst, hpulse⟩ := pulse_of_history_nil (s := edgeTaken x y s) nil settled.2 unsound
    refine ⟨pulseFirst, ?_⟩
    rw [hpulse]
    cases pulseFirst with
    | true =>
      have h := accepted_iff _ (.inl rfl)
      exact ⟨fun ha => if_pos (h.1 ha) ▸ rfl, fun ha => if_neg (mt h.2 ha) ▸ rfl⟩
    | false =>
      have h := accepted_iff _ (.inr rfl)
      exact ⟨fun ha => if_pos (h.1 ha) ▸ rfl, fun ha => if_neg (mt h.2 ha) ▸ rfl⟩

/-! ### REPETITION_INTERVAL_EXPIRY -/

theorem repetitionDue_iff {s : State} {i : Interval} (h : s.pen.repetition = some i) :
    repetitionDue s = true ↔ i.length ≤ (s.time - i.since).toNat := by
  rw [repetitionDue, h, Option.any_some]
  exact decide_eq_true_iff

/-- The state in which the pulse of an expired repetition interval is judged (R67, R71). -/
def repetitionTaken (x y : Coord) (s : State) : State :=
  (presentBeam x y s).setPen { s.pen with repetition := some (repetitionNow s) }

theorem exec_repetitionIntervalExpiry {s : State} (x y : Coord) (settled : Settled s) :
    exec (.repetitionIntervalExpiry x y) s =
      .next (if repetitionDue s then pulse (repetitionTaken x y s) else presentBeam x y s) := by
  show Host.Outcome.next (if repetitionDue s then repetitionExpires (presentBeam x y (meet s)) else _) = _
  rw [meet_none settled.1 settled.2]
  rfl

/-- Settles O36: once tDT has run the pulse is judged as an edge's is, and before that only the beam is presented. -/
theorem repetitionExpiryPulsesAgain : Obligations.RepetitionExpiryPulsesAgain := by
  intro x y i s hi settled pins pen taken judged
  rw [exec_repetitionIntervalExpiry x y settled]
  refine ⟨fun due nil => ?_, fun early => if_neg (mt (repetitionDue_iff hi).1 (Nat.not_le.2 early)) ▸ rfl⟩
  rw [if_pos ((repetitionDue_iff hi).2 due)]
  constructor
  · intro sound
    rw [pulse_of_copiesSound (s := repetitionTaken x y s) sound,
      judgePulse_of_history_nil (s := repetitionTaken x y s) nil settled.2]
    rfl
  · intro unsound
    obtain ⟨pulseFirst, hpulse⟩ := pulse_of_history_nil (s := repetitionTaken x y s) nil settled.2 unsound
    refine ⟨pulseFirst, ?_⟩
    rw [hpulse]
    cases pulseFirst <;> rfl

/-! ### The record's discard and the inhibit and tip lines -/

theorem exec_lastStrikeRecordDiscard {s : State} {t : Time} (h : s.pen.lastStrike = some t)
    (old : 63 ≤ (s.time - t).toNat) : exec .lastStrikeRecordDiscard s = .next (discardRecord s) := by
  have due : discardDue s = true := by
    rw [discardDue, h, Option.any_some]
    exact decide_eq_true old
  exact congrArg Host.Outcome.next (if_pos due)

/-- R72, R73: only a rising edge in LATCH mode sets the latch. -/
theorem pinhChanges_eq (s : State) :
    pinhChanges s = (s.setPins { s.pins with pinh := !s.pins.pinh }).setPen { s.pen with
      inhibitLatch := s.pen.inhibitLatch || (s.pen.active.inhibitMode == .latch && !s.pins.pinh) } := by
  unfold pinhChanges
  by_cases h : s.pen.active.inhibitMode = .latch ∧ (!s.pins.pinh) = true
  · have set : (s.pen.active.inhibitMode == .latch && !s.pins.pinh) = true := by simpa using h
    rw [set, Bool.or_true]
    exact if_pos h
  · have unset : (s.pen.active.inhibitMode == .latch && !s.pins.pinh) = false := by simpa using h
    rw [unset, Bool.or_false]
    exact if_neg h

/-- R74: the debounce interval runs exactly while the level disagrees with the tip state. -/
theorem judgeTip_eq (now : Time) (level : Bool) (p : Pen) :
    judgeTip now level p = { p with
      tipLevel := level
      debounce := if level = (p.tip == .down) then none
        else some { since := now, length := p.active.tDB * 1000 } } := by
  by_cases h : level = (p.tip == .down) <;> simp [judgeTip, disagrees, debounceFrom, milliseconds, h]

/-- Settles O37: each of the three by what its operation does. -/
theorem discardInhibitAndTipEvents : Obligations.DiscardInhibitAndTipEvents :=
  ⟨fun s => ⟨fun _ h old => exec_lastStrikeRecordDiscard h old, congrArg Host.Outcome.next (pinhChanges_eq s)⟩,
   fun _ => congrArg Host.Outcome.next (congrArg (State.setPen _) (judgeTip_eq ..))⟩

end Sys2Proof.Machine
end

section
/-! # The tip events and the end of the debounce interval (R74, R75, R103 to R111, R144 to R154, R174)

What a close of the gate and an end of a run leave in each block is said as a function of the blocks they read, so that
the two receivers of a tip-up give the same blocks in either order and only the order of their reports differs. -/

namespace Sys2Proof.Machine

/-! ### Reports asked one after another -/

theorem takeNext_reports_congr {s t : State} (h : t.reports = s.reports) :
    (takeNext t).reports = (takeNext s).reports := by
  unfold takeNext
  rw [h]
  split <;> simp [enterClaim, h]

theorem requestReport_reports_congr (r : Report) {s t : State} (h : t.reports = s.reports) :
    (requestReport r t).reports = (requestReport r s).reports :=
  takeNext_reports_congr (by simp [h])

/-- The Report Writer takes its requests whatever the other blocks hold. -/
theorem reportsAsked_congr (l : List Report) {s t : State} (h : t.reports = s.reports) :
    reportsAsked l t = reportsAsked l s := by
  unfold reportsAsked
  induction l generalizing s t with
  | nil => exact h
  | cons r l ih => exact ih (requestReport_reports_congr r h)

theorem reportsAsked_append (l m : List Report) {s t : State} (h : t.reports = reportsAsked l s) :
    reportsAsked (l ++ m) s = reportsAsked m t := by
  rw [reportsAsked, List.foldl_append]
  exact reportsAsked_congr m h.symm

/-! ### The close of the gate -/

/-- The Echo Unit once a pick has been reported: the segment or the item echoed, when neither LOCKED nor STALE (R111,
R174, R176). -/
def EchoUnit.afterPick (key : Key) (snap : Snapshot) (e : EchoUnit) : EchoUnit :=
  if snap.locked then e
  else
    match key.item, snap.item with
    | none, _ => { e with picked := some key.name }
    | some _, some d =>
      if snap.stale then e
      else { e with item := some { textAddr := d.textAddr, start := d.start, length := d.length, frames := 8 } }
    | some _, none => e

section
variable {key : Key} {snap : Snapshot} {e : EchoUnit}

theorem EchoUnit.afterPick_of_locked (h : snap.locked = true) : e.afterPick key snap = e := if_pos h

theorem EchoUnit.afterPick_of_segment (h : snap.locked = false) (hk : key.item = none) :
    e.afterPick key snap = { e with picked := some key.name } := by
  simp [EchoUnit.afterPick, h, hk]

theorem EchoUnit.afterPick_of_item {k : Nat} {d : ItemDesc} (h : snap.locked = false) (hk : key.item = some k)
    (hd : snap.item = some d) :
    e.afterPick key snap =
      if snap.stale then e
      else { e with item := some { textAddr := d.textAddr, start := d.start, length := d.length, frames := 8 } } := by
  simp [EchoUnit.afterPick, h, hk, hd]

end

@[simp] theorem afterPick_gate (k : Key) (p : Snapshot) (s : State) :
    (afterPick k p s).gate = { s.gate with lastPick := some (pickedLast p) } := by
  unfold afterPick
  dsimp only
  repeat' split
  all_goals simp [pickedLast, Snapshot.toLastPick]

@[simp] theorem afterPick_echo (k : Key) (p : Snapshot) (s : State) :
    (afterPick k p s).echo = s.echo.afterPick k p := by
  unfold afterPick EchoUnit.afterPick
  cases k.item <;> cases p.item <;> dsimp only <;> split_ifs <;> simp [echoPick, echoItem]

/-- The Gate Unit once its gate has closed with a decision (R107, R111). -/
def GateUnit.closed (u : GateUnit) : GateUnit :=
  u.gate.elim u (fun g => { u with
    gate := none, tally := []
    lastPick := (tallyWinner g.openTime u.tally).elim u.lastPick (fun w => some (pickedLast w.latest)) })

/-- The Echo Unit once a gate has closed with a decision (R111). -/
def EchoUnit.afterClose (u : GateUnit) (e : EchoUnit) : EchoUnit :=
  u.gate.elim e (fun g => (tallyWinner g.openTime u.tally).elim e (fun w => e.afterPick w.key w.latest))

section
variable {u : GateUnit} {e : EchoUnit} {g : OpenGate}

theorem GateUnit.closed_of_closed (h : u.gate = none) : u.closed = u := by
  simp [GateUnit.closed, h]

theorem GateUnit.closed_of_open (h : u.gate = some g) : u.closed = { u with
    gate := none, tally := []
    lastPick := (tallyWinner g.openTime u.tally).elim u.lastPick (fun w => some (pickedLast w.latest)) } := by
  simp [GateUnit.closed, h]

theorem EchoUnit.afterClose_of_closed (h : u.gate = none) : e.afterClose u = e := by
  simp [EchoUnit.afterClose, h]

theorem EchoUnit.afterClose_of_miss (h : u.gate = some g) (hw : tallyWinner g.openTime u.tally = none) :
    e.afterClose u = e := by
  simp [EchoUnit.afterClose, h, hw]

theorem EchoUnit.afterClose_of_winner {w : TallyEntry} (h : u.gate = some g)
    (hw : tallyWinner g.openTime u.tally = some w) : e.afterClose u = e.afterPick w.key w.latest := by
  simp [EchoUnit.afterClose, h, hw]

end

/-- A close of the gate at the three blocks it changes: the unit closed, the winner echoed, the decision reported. -/
theorem closeDeciding_spec (stopped : Bool) (s : State) :
    (closeDeciding stopped s).gate = s.gate.closed ∧
    (closeDeciding stopped s).echo = s.echo.afterClose s.gate ∧
    (closeDeciding stopped s).reports = reportsAsked (decisionReports stopped s) s := by
  cases hg : s.gate.gate with
  | none =>
    have closed : closeDeciding stopped s = s := by simp only [closeDeciding, hg]
    have quiet : decisionReports stopped s = [] := by simp only [decisionReports, hg]
    simp [closed, quiet, GateUnit.closed, EchoUnit.afterClose, hg, reportsAsked]
  | some g =>
    cases hw : tallyWinner g.openTime s.gate.tally with
    | none =>
      have missed : closeDeciding stopped s = closeGate (requestReport (missReport stopped s) s) := by
        simp only [closeDeciding, decideGate, hg, hw]
      have miss : decisionReports stopped s = [missReport stopped s] := by
        simp only [decisionReports, hg, hw]
        rfl
      simp [missed, miss, closeGate, GateUnit.closed, EchoUnit.afterClose, hg, hw, reportsAsked]
    | some w =>
      let report := decisionReport g stopped w (tallyRunner g.openTime s.gate.tally w) s
      have decided : closeDeciding stopped s =
          closeGate (afterPick w.key w.latest (requestReport report s)) := by
        simp only [closeDeciding, decideGate, hg, hw, report]
      have decision : decisionReports stopped s = [report] := by
        simp only [decisionReports, hg, hw]
        rfl
      simp [decided, decision, closeGate, GateUnit.closed, EchoUnit.afterClose, hg, hw, reportsAsked]

/-! ### The end of a run -/

theorem requestWriteBack_tracker (a : Addr) (w : Word) (s : State) :
    (requestWriteBack a w s).tracker =
      { s.tracker with writeBack := some { addr := a, word := w, granted := false } } := by
  unfold requestWriteBack
  dsimp only
  repeat' split
  all_goals simp

theorem offerWriteBack_tracker (s : State) :
    (offerWriteBack s).tracker = { s.tracker with writeBack := runEndWriteBack s.tracker } := by
  unfold offerWriteBack runEndWriteBack
  cases hc : s.tracker.cross with
  | none => simp
  | some c =>
    dsimp only
    split_ifs
    · exact requestWriteBack_tracker ..
    · rfl

theorem endRun_tracker (reason : EndReason) (s : State) :
    (endRun reason s).tracker = if s.tracker.state = .off then s.tracker else runEndTracker s.tracker := by
  by_cases h : s.tracker.state = .off
  · simp [endRun, Tracker.runs, h]
  · simp [endRun, Tracker.runs, h, offerWriteBack_tracker, runEndTracker]

theorem endRun_reports (reason : EndReason) (s : State) :
    (endRun reason s).reports = reportsAsked (runEndReports reason.code s) s := by
  by_cases h : s.tracker.state = .off
  · simp [endRun, Tracker.runs, h, runEndReports, reportsAsked]
  · simp [endRun, Tracker.runs, h, runEndReports, reportsAsked]
    rfl

/-! ### The tip-up at its two receivers -/

/-- What a tip-up leaves: the gate closed and its winner echoed, the run ended, and the reports of the two in either
order (R75, R107, R151). -/
structure TippedUp (s t : State) : Prop where
  gate : t.gate = s.gate.closed
  echo : t.echo = s.echo.afterClose s.gate
  tracker : t.tracker = if s.tracker.state = .off then s.tracker else runEndTracker s.tracker
  reports : ∃ l : List Report, l.Perm (decisionReports false s ++ runEndReports 1 s) ∧ t.reports = reportsAsked l s

theorem tippedUp_gate_first (s : State) : TippedUp s (endRun .tip (closeDeciding false s)) := by
  obtain ⟨hgate, hecho, hreports⟩ := closeDeciding_spec false s
  have hrun : runEndReports 1 (closeDeciding false s) = runEndReports 1 s := by
    simp [runEndReports, runEndReport, trackingReport]
  refine ⟨by simp [hgate], by simp [hecho], by simp [endRun_tracker], _, .refl _, ?_⟩
  rw [reportsAsked_append _ _ hreports, ← hrun]
  exact endRun_reports .tip (closeDeciding false s)

theorem tippedUp_tracker_first (s : State) : TippedUp s (closeDeciding false (endRun .tip s)) := by
  obtain ⟨hgate, hecho, hreports⟩ := closeDeciding_spec false (endRun .tip s)
  have hdecision : decisionReports false (endRun .tip s) = decisionReports false s := by simp [decisionReports]
  refine ⟨by simp [hgate], by simp [hecho], by simp [endRun_tracker], _, List.perm_append_comm, ?_⟩
  rw [hreports, hdecision]
  exact (reportsAsked_append _ _ (endRun_reports .tip s)).symm

/-- A tip-up depends on the two receivers, the Echo Unit, the Report Writer and what the reports are made of. -/
theorem TippedUp.congr {s u t : State} (h : TippedUp u t) (hgate : u.gate = s.gate) (hecho : u.echo = s.echo)
    (htracker : u.tracker = s.tracker) (hreports : u.reports = s.reports)
    (hdecision : decisionReports false u = decisionReports false s) (hrun : runEndReports 1 u = runEndReports 1 s) :
    TippedUp s t := by
  obtain ⟨l, hl, hr⟩ := h.reports
  exact ⟨hgate ▸ h.gate, hgate ▸ hecho ▸ h.echo, htracker ▸ h.tracker, l, hdecision ▸ hrun ▸ hl,
    hr.trans (reportsAsked_congr l hreports)⟩

theorem tipUp_spec (s : State) : TippedUp s (tipUp s) := by
  unfold tipUp
  rcases permute_two (drawn s) EventTaker.gate EventTaker.tracker with h | h <;> rw [h]
  · exact (tippedUp_gate_first (afterDraw s)).congr rfl rfl rfl rfl rfl rfl
  · exact (tippedUp_tracker_first (afterDraw s)).congr rfl rfl rfl rfl rfl rfl

theorem tipUp_choices (s : State) : (tipUp s).choices = s.choices + 1 := by
  simp [tipUp, afterDraw]

/-! ### The tip-down at its two receivers -/

theorem openGate_of_closed {s : State} (h : s.gate.gate = none) :
    openGate s = echoGateOpened (s.setGate { s.gate with
      gate := some { openTime := s.time, frameCount := 0, crowded := false, comparedLength := s.gate.active.length }
      tally := [], dwell := .empty }) := by
  simp only [openGate, h]

/-- R145: what keeps a tip-down from starting a run. -/
theorem tipStart_eq_none {t : Tracker}
    (h : (t.sightedThisFrame = false ∧ t.sightedLastFrame = false) ∨ t.state ≠ .off ∨ t.active.crossName = 0 ∨
      t.cross = none) : tipStart t = none := by
  unfold tipStart
  cases hc : t.cross with
  | none => rfl
  | some c =>
    refine if_neg fun ⟨hoff, hname, hsighted⟩ => ?_
    rcases h with ⟨h, h'⟩ | h | h | h <;> simp_all

theorem tipStart_eq_some {t : Tracker} {c : CrossRecord} (hoff : t.state = .off) (hname : t.active.crossName ≠ 0)
    (hsighted : t.sightedThisFrame = true ∨ t.sightedLastFrame = true) (hc : t.cross = some c) :
    tipStart t = some (intoBox t.active (moveX c.word) (moveY c.word)) := by
  simp only [tipStart, hc]
  exact if_pos ⟨hoff, hname, by simpa using hsighted⟩

theorem tipDown_of_none {s : State} (h : tipStart s.tracker = none) : tipDown s = openGate s := by
  simp only [tipDown, h]

theorem tipDown_of_some {s : State} {p : Coord × Coord} (h : tipStart s.tracker = some p) :
    tipDown s = beginRun p s := by
  simp only [tipDown, h]

theorem toNat_clampCoord {lo hi : Coord} (v : Nat) (h : lo.toNat ≤ hi.toNat) :
    (clampCoord lo hi v).toNat = max lo.toNat (min hi.toNat v) := by
  have := hi.isLt
  unfold clampCoord
  split_ifs
  · omega
  · omega
  · rw [Int.toNat_natCast, BitVec.toNat_ofNat, Nat.mod_eq_of_lt (by omega)]
    omega

/-! ### One result still to be taken -/

theorem trackSighting_of_off {s : State} (h : s.tracker.state = .off) :
    trackSighting s = s.setTracker { s.tracker with sightedThisFrame := true } := by
  simp [trackSighting, Tracker.runs, h]

/-- R144: a sighting that finds a run going on is not kept. -/
theorem trackSighting_of_running {s : State} (h : s.tracker.state ≠ .off) : trackSighting s = s := by
  simp [trackSighting, Tracker.runs, h]

/-- A winner result is taken whatever else is still to be taken. -/
theorem gateWinner_setHanded (w : Winner) (x : HandOffs) (s : State) :
    gateWinner w (s.setHanded x) = (gateWinner w s).setHanded x := by
  have hover (u : State) : hoverTake w (u.setHanded x) = (hoverTake w u).setHanded x := by
    unfold hoverTake
    cases w.item with
    | none => rfl
    | some i =>
      dsimp only
      rw [apply_ite (State.setHanded · x)]
      rfl
  have vote (g : OpenGate) : castVote g w (s.setHanded x) = (castVote g w s).setHanded x := by
    unfold castVote
    dsimp only
    rw [apply_ite (State.setHanded · x), apply_ite (State.setHanded · x)]
    rfl
  have dwell : dwellTake w (s.setHanded x) = (dwellTake w s).setHanded x := by
    unfold dwellTake
    dsimp only
    rw [apply_ite (State.setHanded · x)]
    rfl
  unfold gateWinner
  simp only [State.setHanded_gate]
  rw [← hover]
  congr 1
  cases s.gate.gate with
  | none => exact dwell
  | some g =>
    dsimp only
    rw [vote, apply_ite (State.setHanded · x)]

@[simp] theorem hoverTake_gate (w : Winner) (s : State) :
    (hoverTake w s).gate.gate = s.gate.gate ∧ (hoverTake w s).gate.tally = s.gate.tally := by
  unfold hoverTake
  constructor <;> (repeat' split) <;> simp

@[simp] theorem dwellTake_gate (w : Winner) (s : State) :
    (dwellTake w s).gate.gate = s.gate.gate ∧ (dwellTake w s).gate.tally = s.gate.tally := by
  unfold dwellTake
  constructor <;> split <;> simp

/-- A CLOSED gate stays CLOSED and its Tally as it is when a winner result is taken (R113, R116). -/
theorem gateWinner_of_closed (w : Winner) {s : State} (h : s.gate.gate = none) :
    (gateWinner w s).gate.gate = none ∧ (gateWinner w s).gate.tally = s.gate.tally := by
  simp only [gateWinner, h]
  simp [h]

/-- An OPEN gate stays OPEN when a winner result is taken (R104, R105). -/
theorem gateWinner_of_open (w : Winner) {s : State} {g : OpenGate} (h : s.gate.gate = some g) :
    ∃ g', (gateWinner w s).gate.gate = some g' := by
  simp only [gateWinner, h, hoverTake_gate]
  split_ifs
  · exact ⟨g, h⟩
  · unfold castVote
    dsimp only
    split_ifs
    · exact ⟨g, h⟩
    · exact ⟨g, h⟩
    · exact ⟨_, rfl⟩

section
variable {s : State} {w : Winner} (h : s.handed = { gate := [w], tracker := [] })
include h

theorem settleResults_of_winner : settleResults s = (gateWinner w s).setHanded .none := by
  rw [settleResults, h, ← gateWinner_setHanded]
  simp only [gateResultsTake, h]
  rfl

/-- A lone winner result is left or met. -/
theorem meet_of_winner (notices : NoticesTaken s) :
    ∃ n, meet s = s.setChoices n ∨ meet s = ((gateWinner w s).setHanded .none).setChoices n := by
  obtain ⟨i, hi, j, hj, n, hmeet⟩ := meetResults_spec s
  rw [meet, meetNotices_none notices, hmeet, ← settleResults_of_winner h, settleResults]
  rw [h] at hi hj ⊢
  obtain rfl : j = 0 := Nat.le_zero.1 hj
  obtain rfl | rfl : i = 0 ∨ i = 1 := Nat.le_one_iff_eq_zero_or_eq_one.1 hi
  · exact ⟨n, .inl rfl⟩
  · exact ⟨n, .inr rfl⟩

end

section
variable {s : State} {at_ : Time} (h : s.handed = { gate := [], tracker := [.sighting at_] })
  (hoff : s.tracker.state = .off)
include h hoff

theorem settleResults_of_sighting :
    settleResults s = (s.setHanded .none).setTracker { s.tracker with sightedThisFrame := true } := by
  have taken : settleResults s = trackSighting (s.setHanded .none) := by
    show crossResultsTake s.handed.tracker.length (gateResultsTake s.handed.gate.length s) = _
    rw [h]
    show takeOldest 1 s.handed.tracker takeCross
      (s.setHanded { s.handed with tracker := s.handed.tracker.drop 1 }) = _
    rw [h]
    rfl
  exact taken.trans (trackSighting_of_off hoff)

/-- A lone sighting is left or met. -/
theorem meet_of_sighting (notices : NoticesTaken s) : ∃ n, meet s = s.setChoices n ∨
    meet s = ((s.setHanded .none).setTracker { s.tracker with sightedThisFrame := true }).setChoices n := by
  obtain ⟨i, hi, j, hj, n, hmeet⟩ := meetResults_spec s
  rw [meet, meetNotices_none notices, hmeet, ← settleResults_of_sighting h hoff, settleResults]
  rw [h] at hi hj ⊢
  obtain rfl : i = 0 := Nat.le_zero.1 hi
  obtain rfl | rfl : j = 0 ∨ j = 1 := Nat.le_one_iff_eq_zero_or_eq_one.1 hj
  · exact ⟨n, .inl rfl⟩
  · exact ⟨n, .inr rfl⟩

end

/-! ### The end of the debounce interval -/

theorem exec_debounceExpiry {s : State} {i : Interval} (hi : s.pen.debounce = some i)
    (due : i.length ≤ (s.time - i.since).toNat) : exec .debounceExpiry s = .next (debounceExpires (meet s)) := by
  have hdue : debounceDue s = true := by
    rw [debounceDue, hi, Option.any_some]
    exact decide_eq_true due
  exact congrArg Host.Outcome.next (if_pos hdue)

theorem exec_debounceExpiry_of_settled {s : State} {i : Interval} (hi : s.pen.debounce = some i)
    (due : i.length ≤ (s.time - i.since).toNat) (settled : Settled s) :
    exec .debounceExpiry s = .next (debounceExpires s) := by
  rw [exec_debounceExpiry hi due, meet_none settled.1 settled.2]

/-- The tip state changed at the end of its debounce interval (R74). -/
def tipSet (tip : TipState) (s : State) : State := s.setPen { s.pen with tip := tip, debounce := none }

section
variable {s : State}

/-- R103: a tip-down that starts no run opens the gate. -/
theorem debounceExpires_opens (hup : s.pen.tip = .up) (hnone : tipStart s.tracker = none)
    (hclosed : s.gate.gate = none) :
    debounceExpires s = echoGateOpened ((tipSet .down s).setGate { s.gate with
      gate := some { openTime := s.time, frameCount := 0, crowded := false, comparedLength := s.gate.active.length }
      tally := [], dwell := .empty }) := by
  simp only [debounceExpires, hup]
  exact (tipDown_of_none (s := tipSet .down s) hnone).trans (openGate_of_closed (s := tipSet .down s) hclosed)

/-- R145: a tip-down with a start position begins a run. -/
theorem debounceExpires_begins {p : Coord × Coord} (hup : s.pen.tip = .up) (hsome : tipStart s.tracker = some p) :
    debounceExpires s = beginRun p (tipSet .down s) := by
  simp only [debounceExpires, hup]
  exact tipDown_of_some (s := tipSet .down s) hsome

theorem debounceExpires_of_down (hdown : s.pen.tip = .down) : debounceExpires s = tipUp (tipSet .up s) := by
  simp only [debounceExpires, hdown]
  rfl

theorem debounceExpires_tippedUp (hdown : s.pen.tip = .down) : TippedUp s (debounceExpires s) := by
  rw [debounceExpires_of_down hdown]
  exact (tipUp_spec (tipSet .up s)).congr rfl rfl rfl rfl rfl rfl

/-- R107: an OPEN gate is CLOSED after a tip-up, its Tally emptied. -/
theorem debounceExpires_closes {g : OpenGate} (hdown : s.pen.tip = .down) (hopen : s.gate.gate = some g) :
    (debounceExpires s).gate.gate = none ∧ (debounceExpires s).gate.tally = [] := by
  rw [(debounceExpires_tippedUp hdown).gate, GateUnit.closed_of_open hopen]
  exact ⟨rfl, rfl⟩

/-- R104: a winner result still to be taken after the tip-up finds the gate CLOSED, and votes for nothing. -/
theorem gate_closed_before_winner {g : OpenGate} {w : Winner} (hdown : s.pen.tip = .down)
    (hopen : s.gate.gate = some g) (h : s.handed = { gate := [w], tracker := [] }) :
    (settleResults (debounceExpires s)).gate.gate = none ∧ (settleResults (debounceExpires s)).gate.tally = [] := by
  obtain ⟨hgate, htally⟩ := debounceExpires_closes hdown hopen
  have handed : (debounceExpires s).handed = { gate := [w], tracker := [] } := by simpa using h
  rw [settleResults_of_winner handed]
  exact htally ▸ gateWinner_of_closed w hgate

theorem debounceExpires_pen_of_down (hdown : s.pen.tip = .down) :
    (debounceExpires s).pen = { s.pen with tip := .up, debounce := none } := by
  simp [debounceExpires_of_down hdown, tipSet]

theorem debounceExpires_choices_of_down (hdown : s.pen.tip = .down) :
    (debounceExpires s).choices = s.choices + 1 := by
  rw [debounceExpires_of_down hdown, tipUp_choices]
  rfl

end

/-- Settles O38: the tip-down starts a run or opens the gate, the tip-up closes the gate and ends the run, and a lone
result still to be taken is met before them or left. -/
theorem debounceExpiryMakesTipEvents : Obligations.DebounceExpiryMakesTipEvents := by
  refine ⟨?_, ?_, ?_, ?_, ?_, ?_⟩
  · intro i s hi due hup hclosed settled hnone
    rw [exec_debounceExpiry_of_settled hi due settled, debounceExpires_opens hup (tipStart_eq_none hnone) hclosed]
    rfl
  · intro i c s hi due hup hoff settled hname hsighted hc sound
    rw [exec_debounceExpiry_of_settled hi due settled,
      debounceExpires_begins hup (tipStart_eq_some hoff hname hsighted hc)]
    refine ⟨_, rfl, rfl, rfl, rfl, rfl, rfl, rfl, ?_, ?_, ?_, rfl, rfl, rfl, rfl⟩
    · exact congrArg (Option.map _) hc
    · exact toNat_clampCoord _ sound.boxX
    · exact toNat_clampCoord _ sound.boxY
  · intro i s hi due hdown settled
    rw [exec_debounceExpiry_of_settled hi due settled]
    obtain ⟨hgate, hecho, htracker, hreports⟩ := debounceExpires_tippedUp hdown
    refine ⟨_, rfl, debounceExpires_pen_of_down hdown, htracker, hreports, fun hclosed => ?_, fun g hopen => ?_,
      by simp, by simp, by simp, by simp, debounceExpires_choices_of_down hdown⟩
    · rw [hgate, hecho, GateUnit.closed_of_closed hclosed, EchoUnit.afterClose_of_closed hclosed]
      exact ⟨rfl, rfl⟩
    · rw [hgate, hecho, GateUnit.closed_of_open hopen]
      refine ⟨rfl, fun hempty => ?_, fun w hw => ?_⟩
      · have hnone : tallyWinner g.openTime s.gate.tally = none := hempty ▸ rfl
        rw [hnone, EchoUnit.afterClose_of_miss hopen hnone]
        exact ⟨rfl, rfl⟩
      · rw [hw, EchoUnit.afterClose_of_winner hopen hw]
        exact ⟨rfl, EchoUnit.afterPick_of_locked, EchoUnit.afterPick_of_segment,
          fun hlocked _ _ hkey hitem => EchoUnit.afterPick_of_item hlocked hkey hitem⟩
  · intro i c at_ s hi due hup notices handed hoff hname hc hthis hlast hclosed
    rw [exec_debounceExpiry hi due]
    obtain ⟨n, hmeet | hmeet⟩ := meet_of_sighting handed hoff notices <;> rw [hmeet]
    · let u := s.setChoices n
      rw [debounceExpires_opens (s := u) hup (tipStart_eq_none (.inl ⟨hthis, hlast⟩)) hclosed]
      refine ⟨_, rfl, rfl, .inr ⟨rfl, rfl, Option.some_ne_none _, ?_⟩⟩
      rw [settleResults_of_sighting]
      · rfl
      · exact handed
      · exact hoff
    · let u := ((s.setHanded .none).setTracker { s.tracker with sightedThisFrame := true }).setChoices n
      rw [debounceExpires_begins (s := u) hup (tipStart_eq_some hoff hname (.inl rfl) hc)]
      exact ⟨_, rfl, rfl, .inl ⟨rfl, rfl, rfl, rfl⟩⟩
  · exact fun _ _ hrun => trackSighting_of_running hrun
  · intro i g w s hi due hdown notices handed hopen reports
    rw [exec_debounceExpiry hi due]
    obtain ⟨n, hmeet | hmeet⟩ := meet_of_winner handed notices <;> rw [hmeet]
    · let u := s.setChoices n
      obtain ⟨hgate, htally⟩ := debounceExpires_closes (s := u) hdown hopen
      have tipped : TippedUp s (debounceExpires u) :=
        (debounceExpires_tippedUp (s := u) hdown).congr rfl rfl rfl rfl rfl rfl
      obtain ⟨l, hl, hreports⟩ := tipped.reports
      have hhanded : (debounceExpires u).handed = s.handed := by simp [u]
      have late := gate_closed_before_winner (s := u) hdown hopen handed
      exact ⟨_, l, rfl, hgate, htally, hreports, .inr ⟨hhanded, hl, late⟩⟩
    · let u := ((gateWinner w s).setHanded .none).setChoices n
      have hdown' : u.pen.tip = .down := by simpa [u] using hdown
      obtain ⟨_, hopen'⟩ := gateWinner_of_open w hopen
      obtain ⟨hgate, htally⟩ := debounceExpires_closes hdown' hopen'
      obtain ⟨l, hl, hreports⟩ := (debounceExpires_tippedUp hdown').reports
      have hrun : runEndReports 1 u = runEndReports 1 s := by simp [runEndReports, runEndReport, trackingReport, u]
      rw [hrun] at hl
      have hhanded : (debounceExpires u).handed = .none := by simp [u]
      exact ⟨_, l, rfl, hgate, htally, hreports.trans (reportsAsked_congr l (by simp [u])), .inl ⟨hhanded, hl⟩⟩

end Sys2Proof.Machine
end

section
/-! # The Menu Map, the echo records and the Loft Arithmetic Unit stay sound (R93, R95, R122, R132, R173, R176)

Each of the three blocks by the operations that change it; every other operation leaves all three as they are, so that
the induction over a step (`Kept`) carries their soundness through. -/

namespace Sys2Proof.Machine

/-! ### The Menu Map -/

/-- R95: a character that is no separator makes the open item one longer. -/
theorem itemsLaidOut_lengthenLast {first scanned : Nat} {l : List Item} (h : itemsLaidOut first l scanned) :
    itemsLaidOut first (lengthenLast l) (scanned + 1) := by
  induction l generalizing first with
  | nil => exact h
  | cons i l ih =>
    cases l with
    | nil =>
      obtain ⟨hfirst, hlast⟩ := h
      exact ⟨hfirst, congrArg (· + 1) hlast⟩
    | cons j l =>
      obtain ⟨hfirst, hrest⟩ := h
      have hl := ih hrest
      cases l with
      | nil => exact ⟨hfirst, hl⟩
      | cons k l => exact ⟨hfirst, hl⟩

/-- R95: a separator ends the open item, and the next one opens behind it. -/
theorem itemsLaidOut_open {first scanned : Nat} {l : List Item} (h : itemsLaidOut first l scanned) :
    itemsLaidOut first (l ++ [{ start := scanned + 1, length := 0 }]) (scanned + 1) := by
  induction l generalizing first with
  | nil => exact h.elim
  | cons i l ih =>
    cases l with
    | nil =>
      obtain ⟨hfirst, hlast⟩ := h
      exact ⟨hfirst, congrArg (· + 1) hlast.symm, rfl⟩
    | cons j l =>
      obtain ⟨hfirst, hrest⟩ := h
      exact ⟨hfirst, ih hrest⟩

@[simp] theorem length_lengthenLast (l : List Item) : (lengthenLast l).length = l.length := by
  induction l with
  | nil => rfl
  | cons i l ih =>
    cases l with
    | nil => rfl
    | cons j l => simpa [lengthenLast] using ih

theorem menuEntrySound_start (a : Addr) (n : Name) (g : Glyph) {c : Nat} (h₁ : 1 ≤ c) (h₂ : c ≤ 255) :
    MenuEntrySound (MenuEntry.start a n c g) where
  count := ⟨h₁, h₂⟩
  scanned := Nat.zero_le c
  items := Nat.le_of_ble_eq_true rfl
  layout := ⟨rfl, rfl⟩

@[simp] theorem scanChar_addr (e : MenuEntry) (c : BitVec 8) : (scanChar e c).addr = e.addr := by
  unfold scanChar
  split_ifs <;> rfl

theorem MenuEntrySound.scanChar {e : MenuEntry} (h : MenuEntrySound e) (c : BitVec 8) :
    MenuEntrySound (scanChar e c) := by
  unfold Machine.scanChar
  split_ifs with padding separator
  · exact h
  · exact ⟨h.count, Nat.not_le.1 padding, by simpa using Nat.lt_succ_of_le separator.2, itemsLaidOut_open h.layout⟩
  · exact ⟨h.count, Nat.not_le.1 padding, by simpa using h.items, itemsLaidOut_lengthenLast h.layout⟩

@[simp] theorem scanWord_addr (e : MenuEntry) (j : Nat) (w : Word) : (scanWord e j w).addr = e.addr := by
  unfold scanWord
  split_ifs <;> simp

theorem MenuEntrySound.scanWord {e : MenuEntry} (h : MenuEntrySound e) (j : Nat) (w : Word) :
    MenuEntrySound (scanWord e j w) := by
  unfold Machine.scanWord
  split_ifs
  · exact ((h.scanChar _).scanChar _).scanChar _
  · exact h

theorem menuMapSound_nil : MenuMapSound [] := ⟨Nat.zero_le 16, List.nodup_nil, nofun⟩

/-- A change of each entry that keeps its address keeps the Map's bound and its addresses. -/
theorem MenuMapSound.map {m : List MenuEntry} (h : MenuMapSound m) {f : MenuEntry → MenuEntry}
    (haddr : ∀ e, (f e).addr = e.addr) (hf : ∀ {e}, MenuEntrySound e → MenuEntrySound (f e)) :
    MenuMapSound (m.map f) where
  length := by simpa using h.length
  distinct := by simpa [Function.comp_def, haddr] using h.distinct
  entries := List.forall_mem_map.2 fun e he => hf (h.entries e he)

theorem MenuMapSound.menuOperand {m : List MenuEntry} (h : MenuMapSound m) (a : Addr) (j : Nat) (w : Word) :
    MenuMapSound (menuOperand a j w m) := by
  refine h.map (fun e => ?_) (fun {e} he => ?_) <;> split_ifs
  · exact scanWord_addr e j w
  · rfl
  · exact he.scanWord j w
  · exact he

theorem MenuMapSound.menuInvalidate {m : List MenuEntry} (h : MenuMapSound m) (a : Addr) :
    MenuMapSound (menuInvalidate a m) := by
  refine h.map (fun e => ?_) (fun {e} he => ?_) <;> split_ifs
  · rfl
  · rfl
  · exact ⟨he.count, he.scanned, he.items, he.layout⟩
  · exact he

/-- R94: the entry built anew stands alone under its address, and the oldest of sixteen others gives way. -/
theorem MenuMapSound.menuStart {m : List MenuEntry} (h : MenuMapSound m) {e : MenuEntry} (he : MenuEntrySound e) :
    MenuMapSound (menuStart e m) := by
  unfold Machine.menuStart
  dsimp only
  generalize hothers : m.filter (fun x => x.addr != e.addr) = others
  have sub : List.Sublist others m := hothers ▸ List.filter_sublist
  have ne : ∀ x ∈ others, x.addr ≠ e.addr := by
    rw [← hothers]
    exact fun x hx => bne_iff_ne.1 (List.mem_filter.1 hx).2
  have hlength := sub.length_le.trans h.length
  generalize hkept : (if others.length < 16 then others else others.drop 1) = kept
  have keptSub : List.Sublist kept others := by
    rw [← hkept]
    split_ifs
    · exact .refl _
    · exact List.drop_sublist 1 others
  have keptLength : kept.length < 16 := by
    rw [← hkept]
    split_ifs with hlt
    · exact hlt
    · rw [List.length_drop]
      omega
  refine ⟨?_, ?_, ?_⟩
  · simpa using keptLength
  · rw [List.map_append, List.map_singleton]
    refine List.nodup_append.2 ⟨h.distinct.sublist ((keptSub.trans sub).map _), by simp, ?_⟩
    simpa using fun x hx => ne x (keptSub.subset hx)
  · intro x hx
    rcases List.mem_append.1 hx with hx | hx
    · exact h.entries x ((keptSub.trans sub).subset hx)
    · exact List.mem_singleton.1 hx ▸ he

/-! ### The echo records -/

section
variable {e : EchoUnit} (h : EchoSound e)
include h

theorem EchoSound.withPicked (x : Option Name) : EchoSound { e with picked := x } :=
  ⟨h.item, h.readoutLength, h.readoutNames⟩

theorem EchoSound.withText (x : Option TextRecord) : EchoSound { e with text := x } :=
  ⟨h.item, h.readoutLength, h.readoutNames⟩

theorem EchoSound.withItem {x : Option ItemEcho} (hx : ∀ i, x = some i → 1 ≤ i.frames ∧ i.frames ≤ 8) :
    EchoSound { e with item := x } :=
  ⟨hx, h.readoutLength, h.readoutNames⟩

/-- R176: an item echo is asked for with 8 frames. -/
theorem EchoSound.withNewItem (a : Addr) (i n : Nat) :
    EchoSound { e with item := some { textAddr := a, start := i, length := n, frames := 8 } } :=
  h.withItem fun _ hi => Option.some.inj hi ▸ by simp

theorem EchoSound.afterPick (k : Key) (p : Snapshot) : EchoSound (e.afterPick k p) := by
  unfold EchoUnit.afterPick
  repeat' split
  · exact h
  · exact h.withPicked _
  · exact h
  · exact h.withNewItem ..
  · exact h

theorem EchoSound.afterClose (u : GateUnit) : EchoSound (e.afterClose u) := by
  unfold EchoUnit.afterClose
  cases u.gate with
  | none => exact h
  | some g =>
    rw [Option.elim_some]
    cases tallyWinner g.openTime u.tally with
    | none => exact h
    | some w => exact h.afterPick _ _

/-- R176: a frame end takes one frame of the item echo, and the echo with its last. -/
theorem EchoSound.frameEnd : EchoSound { e with item := echoOneFrameOn e.item, readouts := [] } := by
  refine ⟨fun i hi => ?_, by simp, by simp⟩
  obtain ⟨j, hj, hi⟩ := Option.bind_eq_some_iff.1 hi
  have := h.item j hj
  split_ifs at hi with last
  obtain rfl := Option.some.inj hi
  dsimp only
  omega

/-- R179: a name that the readout list does not hold joins it only while it has room. -/
theorem EchoSound.withReadout {n : Name} {a : Addr} (room : readoutListed e.readouts n a = true)
    (fresh : e.readouts.any (fun x => x.1 == n) = false) :
    EchoSound { e with readouts := e.readouts ++ [(n, a)] } := by
  have new : ∀ x ∈ e.readouts, x.1 ≠ n := by simpa using fresh
  have hnone : e.readouts.find? (fun x => x.1 == n) = none := by simpa using new
  rw [readoutListed, hnone] at room
  refine ⟨h.item, ?_, ?_⟩
  · simpa using room
  · rw [List.map_append, List.map_singleton]
    exact List.nodup_append.2 ⟨h.readoutNames, by simp, by simpa using new⟩

end

theorem echoSound_reset : EchoSound EchoUnit.reset := by
  constructor <;> simp [EchoUnit.reset]

/-- The Echo Unit's frame end (R176, R181). -/
theorem echoFrameEnd_echo (s : State) :
    (echoFrameEnd s).echo = { s.echo with item := echoOneFrameOn s.echo.item, readouts := [] } := by
  unfold echoFrameEnd itemEchoRunOut
  cases hi : s.echo.item with
  | none => simp [echoOneFrameOn]
  | some i =>
    by_cases last : i.frames ≤ 1
    · simp [echoOneFrameOn, last, Nat.sub_eq_zero_of_le last]
    · simp [echoOneFrameOn, last, Nat.sub_eq_zero_iff_le]

theorem echoSound_openText {s : State} (h : EchoSound s.echo) (a : Addr) (c : Nat) (n : Name) :
    EchoSound (openText a c n s).echo := by
  unfold openText
  dsimp only [State.setEcho]
  split_ifs with room
  · simp only [Bool.and_eq_true, Bool.not_eq_true'] at room
    obtain ⟨⟨_, listed⟩, fresh⟩ := room
    exact (h.withReadout listed fresh).withText _
  · exact h.withText _

theorem echoSound_echoDropped {s : State} (h : EchoSound s.echo) (l : List Name) :
    EchoSound (echoDropped l s).echo := by
  unfold echoDropped
  repeat' split
  · exact h.withPicked _
  · exact h
  · exact h

theorem echoSound_itemEchoRunOut {s : State} (h : EchoSound s.echo) : EchoSound (itemEchoRunOut s).echo := by
  unfold itemEchoRunOut
  repeat' split
  · exact h.withItem nofun
  · exact h
  · exact h

theorem echoSound_closeDeciding {s : State} (h : EchoSound s.echo) (b : Bool) :
    EchoSound (closeDeciding b s).echo := by
  rw [(closeDeciding_spec b s).2.1]
  exact h.afterClose _

theorem echoSound_closeByLength {s : State} (h : EchoSound s.echo) : EchoSound (closeByLength s).echo := by
  unfold closeByLength
  repeat' split
  · exact echoSound_closeDeciding h false
  · exact h
  · exact h

theorem echoSound_openGate {s : State} (h : EchoSound s.echo) : EchoSound (openGate s).echo := by
  unfold openGate
  split
  · exact h
  · exact h.withPicked none

theorem echoSound_dwellReport {s : State} (h : EchoSound s.echo) : EchoSound (dwellReport s).echo := by
  unfold dwellReport
  dsimp only
  repeat' split
  · simpa using h.afterPick _ _
  · exact h
  · exact h

theorem echoSound_gateFrameEnd {s : State} (h : EchoSound s.echo) : EchoSound (gateFrameEnd s).echo := by
  have closed : EchoSound (closeByLength (raiseGateCount s)).echo := echoSound_closeByLength (by simpa using h)
  have rolled : EchoSound (dwellFrameEnd (closeByLength (raiseGateCount s))).echo := by
    unfold dwellFrameEnd
    split
    · exact echoSound_dwellReport closed
    · exact closed
  simpa [gateFrameEnd] using rolled

/-! ### The Loft Arithmetic Unit -/

theorem viewSettingsSound_powerUp : ViewSettingsSound ViewSettings.powerUp := by
  constructor <;> decide

theorem lengthField_mem (w : Word) : -999999 ≤ lengthField w ∧ lengthField w ≤ 999999 :=
  ⟨le_clampInt, clampInt_le (by decide)⟩

/-- A present value that an argument changes keeps what every argument's change keeps (R31). -/
theorem withArgument_keeps {α : Type} {p : α → Prop} {ws : List Word} {j : Nat} {f : Word → α → α} {x : α}
    (hf : ∀ w {x}, p x → p (f w x)) (h : p x) : p (withArgument ws j f x) := by
  unfold withArgument
  split
  · exact hf _ h
  · exact h

/-- R32, R122: the arguments of a VIEW are clamped. -/
theorem ViewSettingsSound.viewCandidate {v : ViewSettings} (h : ViewSettingsSound v) (p : BitVec 12)
    (ws : List Word) : ViewSettingsSound (viewCandidate p ws v) := by
  refine withArgument_keeps (fun w _ h => ?_) (withArgument_keeps (fun w _ h => ?_)
    (withArgument_keeps (fun w _ h => ?_) (withArgument_keeps (fun w _ h => ?_) ?_)))
  · exact { h with centreline := ⟨le_clampNat, clampNat_le (by decide)⟩ }
  · exact { h with originB := lengthField_mem w }
  · exact { h with originA := lengthField_mem w }
  · exact { h with scale := ⟨le_clampNat, clampNat_le (by decide)⟩ }
  · exact { h with }

/-- R32, R122: the arguments of a GRID are clamped. -/
theorem ViewSettingsSound.gridCandidate {v : ViewSettings} (h : ViewSettingsSound v) (ws : List Word) :
    ViewSettingsSound (gridCandidate ws v) := by
  refine withArgument_keeps (fun w _ h => ?_) (withArgument_keeps (fun w _ h => ?_)
    (withArgument_keeps (fun w _ h => ?_) h))
  · exact { h with frameZero := lengthField_mem w }
  · exact { h with spacing := ⟨le_clampNat, clampNat_le (by decide)⟩ }
  · exact { h with grid := clampNat_le (by decide) }

theorem loftSound_reset {v : ViewSettings} (h : ViewSettingsSound v) : LoftSound (LoftUnit.reset v) :=
  ⟨h, nofun, nofun⟩

section
variable {s : State} (h : LoftSound s.loft)
include h

theorem loftSound_loftMerge {c : ViewSettings} (hc : ViewSettingsSound c) : LoftSound (loftMerge c s).loft :=
  ⟨h.active, fun _ hv => shadowOf_eq_some hv ▸ hc, h.readout⟩

theorem loftSound_present : ViewSettingsSound (presentValue s.loft.active s.loft.shadow) :=
  presentValue_of h.active h.shadow

theorem loftSound_loftFrameEnd : LoftSound (loftFrameEnd s).loft :=
  ⟨loftSound_present h, nofun, h.readout⟩

/-- R132: a readout string, held or formed, has one entry for each character. -/
theorem length_readoutFor (part : Option ReadoutPart) (a : Addr) (n j : Nat) :
    (readoutFor part a n j s).entries.length = (readoutFor part a n j s).count := by
  have formed : (formReadout part a n s).entries.length = (formReadout part a n s).count := by
    simp [formReadout]
  unfold readoutFor
  split
  · split_ifs
    · exact h.readout _ ‹_›
    · exact formed
  · exact formed

end

/-! ### The three blocks over a step -/

/-- The three blocks are sound. -/
def MenuEchoLoftSound (s : State) : Prop := MenuMapSound s.menuMap ∧ EchoSound s.echo ∧ LoftSound s.loft

theorem menuEchoLoftSound_kept : Kept MenuEchoLoftSound := by
  constructor
  case plain =>
    rintro s t ⟨_, _, _, hmenu, _, hloft, _, hecho, _⟩ ⟨m, e, l⟩
    exact ⟨hmenu ▸ m, hecho ▸ e, hloft ▸ l⟩
  all_goals rintro s
  case menuStart => exact fun a n _ g h₁ h₂ ⟨m, e, l⟩ => ⟨m.menuStart (menuEntrySound_start a n g h₁ h₂), e, l⟩
  case menuOperand => exact fun a j w ⟨m, e, l⟩ => ⟨m.menuOperand a j w, e, l⟩
  case menuInvalidate => exact fun a ⟨m, e, l⟩ => ⟨m.menuInvalidate a, e, l⟩
  case passView => exact fun p ws ⟨m, e, l⟩ => ⟨m, e, loftSound_loftMerge l ((loftSound_present l).viewCandidate p ws)⟩
  case passGrid => exact fun ws ⟨m, e, l⟩ => ⟨m, e, loftSound_loftMerge l ((loftSound_present l).gridCandidate ws)⟩
  case loftFrameEnd => exact fun ⟨m, e, l⟩ => ⟨m, e, loftSound_loftFrameEnd l⟩
  case readout =>
    exact fun part a n j ⟨m, e, l⟩ =>
      ⟨m, e, l.active, l.shadow, fun _ hr => Option.some.inj hr ▸ length_readoutFor l part a n j⟩
  case openText => exact fun a c n ⟨m, e, l⟩ => ⟨m, echoSound_openText e a c n, l⟩
  case closeText => exact fun ⟨m, e, l⟩ => ⟨m, e.withText none, l⟩
  case echoPick => exact fun n ⟨m, e, l⟩ => ⟨m, e.withPicked (some n), l⟩
  case echoItem => exact fun d ⟨m, e, l⟩ => ⟨m, e.withNewItem .., l⟩
  case echoClear => exact fun ⟨m, e, l⟩ => ⟨m, (e.withPicked none).withItem nofun, l⟩
  case echoDropped => exact fun names ⟨m, e, l⟩ => ⟨by simpa, echoSound_echoDropped e names, by simpa⟩
  case echoFrameEnd => exact fun ⟨m, e, l⟩ => ⟨by simpa, echoFrameEnd_echo s ▸ e.frameEnd, by simpa⟩
  case itemEchoRunOut => exact fun ⟨m, e, l⟩ => ⟨by simpa, echoSound_itemEchoRunOut e, by simpa⟩
  case closeDeciding => exact fun b ⟨m, e, l⟩ => ⟨by simpa, echoSound_closeDeciding e b, by simpa⟩
  case closeByLength => exact fun ⟨m, e, l⟩ => ⟨by simpa, echoSound_closeByLength e, by simpa⟩
  case openGate => exact fun ⟨m, e, l⟩ => ⟨by simpa, echoSound_openGate e, by simpa⟩
  case dwellReport => exact fun ⟨m, e, l⟩ => ⟨by simpa, echoSound_dwellReport e, by simpa⟩
  case gateFrameEnd => exact fun ⟨m, e, l⟩ => ⟨by simpa, echoSound_gateFrameEnd e, by simpa⟩
  case powerUp =>
    exact fun _ _ => ⟨menuMapSound_nil, echoSound_reset, loftSound_reset viewSettingsSound_powerUp⟩
  case init => exact fun _ ⟨_, _, l⟩ => ⟨menuMapSound_nil, echoSound_reset, loftSound_reset l.active⟩
  all_goals
    intros
    simpa [MenuEchoLoftSound]

/-- Settles O57, by the induction over a step. -/
theorem stepKeepsMenuEchoAndLoftSound : Obligations.StepKeepsMenuEchoAndLoftSound :=
  fun _ _ m e l hstep => menuEchoLoftSound_kept.step ⟨m, e, l⟩ hstep

end Sys2Proof.Machine
end

section
/-! # The choice among a strike's candidates (R86 to R90)

The ranking joins the candidates of each priority, 7 down to 0, the later in the history first; the winner is found by
passing over, from the front, the menu candidates that yield nothing. -/

namespace Sys2Proof.Machine

/-! ### The ranking (R86) -/

section
variable {α : Type} (f : α → Nat) (l : List α)

/-- The elements of a list by the values of a key, one value after another. -/
def groupsBy (ps : List Nat) : List α := ps.flatMap (fun p => l.filter (fun x => f x == p))

theorem groupsBy_cons (p : Nat) (ps : List Nat) :
    groupsBy f l (p :: ps) = l.filter (fun x => f x == p) ++ groupsBy f l ps := List.flatMap_cons

/-- Groups by different values hold each element of those values once. -/
theorem groupsBy_perm {ps : List Nat} (hd : ps.Nodup) :
    (groupsBy f l ps).Perm (l.filter (fun x => ps.contains (f x))) := by
  induction ps with
  | nil => simp [groupsBy]
  | cons p ps ih =>
    obtain ⟨hp, hd⟩ := List.nodup_cons.1 hd
    have here : (l.filter (fun x => (p :: ps).contains (f x))).filter (fun x => f x == p) =
        l.filter (fun x => f x == p) := by
      rw [List.filter_filter]
      exact List.filter_congr fun x _ => by by_cases h : f x = p <;> simp [h]
    have there : (l.filter (fun x => (p :: ps).contains (f x))).filter (fun x => !(f x == p)) =
        l.filter (fun x => ps.contains (f x)) := by
      rw [List.filter_filter]
      refine List.filter_congr fun x _ => ?_
      by_cases h : f x = p
      · simp [h, hp]
      · simp [h]
    have parts := List.filter_append_perm (fun x => f x == p) (l.filter (fun x => (p :: ps).contains (f x)))
    rw [here, there] at parts
    exact ((ih hd).append_left _).trans parts

/-- Groups by falling values stand in falling order. -/
theorem groupsBy_pairwise {ps : List Nat} (hp : ps.Pairwise (· > ·)) :
    (groupsBy f l ps).Pairwise (fun x y => f y ≤ f x) := by
  refine List.pairwise_flatMap.2 ⟨fun p _ => ?_, hp.imp fun {p q} hpq x hx y hy => ?_⟩
  · refine List.pairwise_iff_forall_sublist.2 fun {x y} h => ?_
    have hx := h.subset (List.mem_cons_self)
    have hy := h.subset (List.mem_cons_of_mem x List.mem_cons_self)
    simp only [List.mem_filter, beq_iff_eq] at hx hy
    omega
  · simp only [List.mem_filter, beq_iff_eq] at hx hy
    omega

/-- The group of one value is what the list holds of it, in the list's order. -/
theorem filter_groupsBy {ps : List Nat} (hd : ps.Nodup) {p : Nat} (hp : p ∈ ps) :
    (groupsBy f l ps).filter (fun x => f x == p) = l.filter (fun x => f x == p) := by
  have other {q : Nat} (h : q ≠ p) : (l.filter (fun x => f x == q)).filter (fun x => f x == p) = [] := by
    simp only [List.filter_eq_nil_iff, List.mem_filter, beq_iff_eq]
    omega
  have none_of {qs : List Nat} (h : p ∉ qs) : (groupsBy f l qs).filter (fun x => f x == p) = [] := by
    rw [groupsBy, List.filter_flatMap, List.flatMap_eq_nil_iff]
    exact fun q hq => other (ne_of_mem_of_not_mem hq h)
  induction ps with
  | nil => exact absurd hp List.not_mem_nil
  | cons q ps ih =>
    obtain ⟨hq, hd⟩ := List.nodup_cons.1 hd
    rw [groupsBy_cons, List.filter_append]
    rcases List.mem_cons.1 hp with rfl | hp
    · rw [List.filter_filter, none_of hq, List.append_nil]
      simp
    · rw [other (ne_of_mem_of_not_mem hp hq).symm, List.nil_append]
      exact ih hd hp

end

/-- The priorities, in the order in which they are ranked. -/
def priorities : List Nat := [7, 6, 5, 4, 3, 2, 1, 0]

theorem mem_priorities {p : Nat} : p ∈ priorities ↔ p ≤ 7 := by
  simp only [priorities, List.mem_cons, List.not_mem_nil, or_false]
  omega

theorem rankCandidates_eq (s : State) (c : List HistoryEntry) :
    rankCandidates s c = groupsBy (fun e => (attributesOf s e.name).priority) c.reverse priorities := rfl

/-- R50: no name has a priority above 7. -/
theorem attributesOf_priority_le {s : State} (h : SegmentsSound s.segments) (n : Name) :
    (attributesOf s n).priority ≤ 7 := by
  unfold attributesOf SegmentTable.find
  split_ifs
  · exact Nat.zero_le 7
  · cases hf : s.segments.entries.find? (fun e => e.name == n) with
    | none => exact Nat.zero_le 7
    | some e => exact (h.active e (List.mem_of_find?_eq_some hf)).priority

/-- Settles O44: the ranking groups the reversed candidates by falling priority. -/
theorem rankingIsByPriorityThenLatest : Obligations.RankingIsByPriorityThenLatest := by
  intro s c sound
  have ranked (e : HistoryEntry) : (attributesOf s e.name).priority ∈ priorities :=
    mem_priorities.2 (attributesOf_priority_le sound e.name)
  rw [rankCandidates_eq]
  refine ⟨?_, groupsBy_pairwise _ _ (by decide), fun p => ?_⟩
  · have all : c.reverse.filter (fun e => priorities.contains (attributesOf s e.name).priority) = c.reverse :=
      List.filter_eq_self.2 fun e _ => List.contains_iff_mem.2 (ranked e)
    have perm := groupsBy_perm (fun e => (attributesOf s e.name).priority) c.reverse (ps := priorities) (by decide)
    rw [all] at perm
    exact perm.trans c.reverse_perm
  · rw [← List.filter_reverse]
    by_cases hp : p ∈ priorities
    · exact filter_groupsBy _ _ (by decide) hp
    · have none_of (l : List HistoryEntry) : l.filter (fun e => (attributesOf s e.name).priority == p) = [] :=
        List.filter_eq_nil_iff.2 fun e _ h => hp (beq_iff_eq.1 h ▸ ranked e)
      rw [none_of, none_of]

/-! ### The character index (R88) -/

theorem characterIndex_of_none {t : TextPart} (h : min t.count t.fetched = 0) (bx : Coord) :
    characterIndex t bx = none := if_pos h

/-- The beam's distance from the text's start over the pitch, rounded down. -/
def rawIndex (t : TextPart) (bx : Coord) : Int := ((bx.toNat : Int) - t.startX.toNat) / (t.pitch : Int)

theorem characterIndex_of_some {t : TextPart} (h : 0 < min t.count t.fetched) (bx : Coord) :
    ∃ i : Nat, characterIndex t bx = some i ∧
      (i : Int) = max 0 (min (((min t.count t.fetched : Nat) : Int) - 1) (rawIndex t bx)) := by
  refine ⟨_, if_neg h.ne', ?_⟩
  show ((if rawIndex t bx < 0 then 0 else min (rawIndex t bx).toNat _ : Nat) : Int) = _
  split_ifs <;> omega

/-- A menu candidate that yields nothing is passed over (R88, R90). -/
theorem firstWinner_cons_of_passed {s : State} {bx : Coord} {e : HistoryEntry} {t : TextPart}
    (ht : menuText e = some t) (hy : yieldedItem s.menuMap e t bx = none) (by_ : Coord) (l : List HistoryEntry) :
    firstWinner s bx by_ (e :: l) = firstWinner s bx by_ l := by
  simp only [firstWinner, ht, hy]

theorem yieldedItem_of_no_index {t : TextPart} {bx : Coord} (h : characterIndex t bx = none) (m : List MenuEntry)
    (e : HistoryEntry) : yieldedItem m e t bx = none := by
  rw [yieldedItem, h, Option.bind_none]

/-- Settles O45: the raw index is the floor of a quotient, and the index is the raw index clamped. -/
theorem characterIndexUnderTheBeam : Obligations.CharacterIndexUnderTheBeam := by
  intro t bx pitch
  refine ⟨fun h => ?_, fun h => ?_⟩
  · have none := characterIndex_of_none h bx
    exact ⟨none, fun s by_ e l ht => firstWinner_cons_of_passed ht (yieldedItem_of_no_index none _ e) by_ l⟩
  · obtain ⟨i, hi, clamped⟩ := characterIndex_of_some h bx
    have pitch : (0 : Int) < t.pitch := Int.natCast_pos.2 pitch
    refine ⟨rawIndex t bx, i, hi, Int.ediv_mul_le _ pitch.ne', Int.lt_ediv_add_one_mul_self _ pitch, fun h7 => ?_,
      clamped⟩
    have := bx.isLt
    have := t.startX.isLt
    rw [rawIndex, h7]
    omega

/-! ### The item under an index (R89) -/

theorem itemHolding_eq_none {index : Nat} {items : List Item}
    (h : ∀ j ∈ items, ¬(j.start ≤ index ∧ index < j.start + j.length)) (k : Nat) :
    itemHolding index k items = none := by
  induction items generalizing k with
  | nil => rfl
  | cons j l ih =>
    obtain ⟨hj, hl⟩ := List.forall_mem_cons.1 h
    rw [itemHolding, if_neg hj, ih hl]

/-- The first item that holds the index is found with its place in the list. -/
theorem itemHolding_eq_some {index : Nat} {before : List Item} {j : Item}
    (hbefore : ∀ o ∈ before, ¬(o.start ≤ index ∧ index < o.start + o.length))
    (hj : j.start ≤ index ∧ index < j.start + j.length) (after : List Item) (k : Nat) :
    itemHolding index k (before ++ j :: after) = some (k + before.length, j) := by
  induction before generalizing k with
  | nil => exact if_pos hj
  | cons o l ih =>
    obtain ⟨ho, hl⟩ := List.forall_mem_cons.1 hbefore
    rw [List.cons_append, itemHolding, if_neg ho, ih hl, List.length_cons, Nat.add_right_comm, Nat.add_assoc]

theorem menuLookup_of_absent {m : List MenuEntry} {a : Addr} (h : ∀ e ∈ m, e.addr ≠ a) (n : Name) (c i : Nat) :
    menuLookup m a n c i = none := by
  have absent : m.find? (fun e => e.addr == a) = none := by simpa using h
  rw [menuLookup, absent, Option.bind_none]

theorem menuLookup_of_first {newer others : List MenuEntry} {m : MenuEntry} {a : Addr}
    (hnewer : ∀ o ∈ newer, o.addr ≠ a) (hm : m.addr = a) (n : Name) (c i : Nat) :
    menuLookup (newer ++ m :: others) a n c i =
      if m.valid ∧ m.name = n ∧ m.count = c ∧ i < m.scanned then itemHolding i 0 m.items else none := by
  have first : (newer ++ m :: others).find? (fun e => e.addr == a) = some m := by
    have none_newer : newer.find? (fun e => e.addr == a) = none := by simpa using hnewer
    rw [List.find?_append, none_newer, List.find?_cons_of_pos (by simpa using hm), Option.none_or]
  rw [menuLookup, first, Option.bind_some]

/-! ### The winner (R90) -/

theorem firstWinner_of_plain {e : HistoryEntry} (h : menuText e = none) (s : State) (bx by_ : Coord)
    (l : List HistoryEntry) : firstWinner s bx by_ (e :: l) = some (winnerOf s bx by_ e none) := by
  simp only [firstWinner, h]

theorem firstWinner_of_yielded {s : State} {bx : Coord} {e : HistoryEntry} {t : TextPart} {i : Nat × Item}
    (ht : menuText e = some t) (hi : yieldedItem s.menuMap e t bx = some i) (by_ : Coord) (l : List HistoryEntry) :
    firstWinner s bx by_ (e :: l) = some (winnerOf s bx by_ e (some i)) := by
  simp only [firstWinner, ht, hi]

/-- Candidates passed over stand before no winner. -/
theorem firstWinner_append_of_passed {s : State} {bx : Coord} {before : List HistoryEntry}
    (h : ∀ e ∈ before, ∃ t, menuText e = some t ∧ yieldedItem s.menuMap e t bx = none) (by_ : Coord)
    (l : List HistoryEntry) : firstWinner s bx by_ (before ++ l) = firstWinner s bx by_ l := by
  induction before with
  | nil => rfl
  | cons e before ih =>
    obtain ⟨⟨t, ht, hy⟩, hbefore⟩ := List.forall_mem_cons.1 h
    rw [List.cons_append, firstWinner_cons_of_passed ht hy, ih hbefore]

/-- Settles O46: the candidates before the winner are passed over one by one, and an item is looked up in the one entry
of its text's address that the Map finds first. -/
theorem winnerIsTheFirstThatResolves : Obligations.WinnerIsTheFirstThatResolves := by
  intro s bx by_ l resolves passedOver
  refine ⟨fun h => ?_, fun before e after k hl hbefore hk => ?_, fun e t => ⟨fun h => ?_, ?_⟩⟩
  · rw [← List.append_nil l, firstWinner_append_of_passed h]
    rfl
  · rw [hl, firstWinner_append_of_passed hbefore]
    rcases hk with ⟨plain, rfl⟩ | ⟨t, i, ht, hi, rfl⟩
    · exact ⟨_, firstWinner_of_plain plain s bx by_ after, rfl, rfl, rfl, rfl, rfl, rfl, rfl⟩
    · exact ⟨_, firstWinner_of_yielded ht hi by_ after, rfl, rfl, rfl, rfl, rfl, rfl, rfl⟩
  · exact yieldedItem_of_no_index h _ e
  · intro i hi holds
    have lookup : yieldedItem s.menuMap e t bx = menuLookup s.menuMap e.addr e.name t.count i := by
      rw [yieldedItem, hi, Option.bind_some]
    rw [lookup]
    refine ⟨fun absent => menuLookup_of_absent absent _ _ _, ?_⟩
    intro newer m others hm hnewer haddr serves
    rw [hm, menuLookup_of_first hnewer haddr]
    refine ⟨fun h => ?_, fun hserves before j after hitems hbefore hj => ?_⟩
    · split_ifs with hserves
      · exact itemHolding_eq_none (h.resolve_left (not_not_intro hserves)) 0
      · rfl
    · rw [if_pos hserves, hitems, itemHolding_eq_some hbefore hj, Nat.zero_add]

end Sys2Proof.Machine
end

section
/-! # What each watcher has taken (R97, R161, R162)

A watcher handles its notices one after another, by its own block alone, and none of the others touches that block or
its list. So what a watcher's block becomes once every notice is taken depends on the block and the list alone, and not
on how much of it was taken when. The Gate Unit's list is what the Menu Map has handed it and will hand it. -/

namespace Sys2Proof.Machine

/-! ### A watcher -/

/-- A watcher: the list it takes from, the block it takes into, and how it handles one of the list. -/
structure Watcher (α β : Type) where
  queue : State → List α
  part : State → β
  react : α → State → State

namespace Watcher

variable {α β : Type} (w : Watcher α β)

/-- The watcher's block is handled by itself alone. -/
def Local : Prop := ∀ x {s t}, w.part t = w.part s → w.part (w.react x t) = w.part (w.react x s)

/-- A state once the watcher has handled a list. -/
def handle (l : List α) (s : State) : State := l.foldl (fun s x => w.react x s) s

/-- The watcher has taken some of its list, the oldest first, and its block has no other change. -/
def Took (s t : State) : Prop :=
  ∃ n, w.queue t = (w.queue s).drop n ∧ w.part t = w.part (w.handle ((w.queue s).take n) s)

variable {w}

theorem Local.handle (hw : w.Local) (l : List α) {s t : State} (h : w.part t = w.part s) :
    w.part (w.handle l t) = w.part (w.handle l s) := by
  induction l generalizing s t with
  | nil => exact h
  | cons x l ih => exact ih (hw x h)

theorem Took.of_same {s t : State} (hq : w.queue t = w.queue s) (hp : w.part t = w.part s) : w.Took s t :=
  ⟨0, hq, hp⟩

theorem Took.trans (hw : w.Local) {s t u : State} (h : w.Took s t) (g : w.Took t u) : w.Took s u := by
  obtain ⟨n, hq, hp⟩ := h
  obtain ⟨m, gq, gp⟩ := g
  refine ⟨n + m, by rw [gq, hq, List.drop_drop], ?_⟩
  rw [gp, hw.handle _ hp, hq, List.take_add, Watcher.handle, Watcher.handle, Watcher.handle, List.foldl_append]

theorem Took.rest {s t : State} (h : w.Took s t) : w.queue t <:+ w.queue s := by
  obtain ⟨n, hq, _⟩ := h
  exact hq ▸ List.drop_suffix n _

/-- Once the watcher has taken its whole list, its block is as after the list. -/
theorem Took.part_of_all {s t : State} (h : w.Took s t) (hall : w.queue t = []) :
    w.part t = w.part (w.handle (w.queue s) s) := by
  obtain ⟨n, hq, hp⟩ := h
  rw [hp, List.take_of_length_le (List.drop_eq_nil_iff.1 (hq ▸ hall))]

end Watcher

/-! ### The six that take notices -/

def followerWatch : Watcher Notice Follower := ⟨(·.passage.notices.follower), (·.follower), (historyNotice ·.addr)⟩

def menuWatch : Watcher Notice (List MenuEntry) := ⟨(·.passage.notices.menuMap), (·.menuMap), (menuNotice ·.addr)⟩

def passWatch : Watcher Notice PassDecoder := ⟨(·.passage.notices.pass), (·.pass), (passNotice ·.addr)⟩

def trackerWatch : Watcher Notice Tracker := ⟨(·.passage.notices.tracker), (·.tracker), (trackNotice ·.addr)⟩

def reportsWatch : Watcher Notice ReportWriter :=
  ⟨(·.passage.notices.reports), (·.reports), fun x => reportsNotice x.addr x.data⟩

/-- The texts that a list of notices invalidates in a Map, one notice after another (R97). -/
def invalidations : List Notice → List MenuEntry → List Addr
  | [], _ => []
  | x :: q, m => invalidatedTexts x.addr m ++ invalidations q (menuInvalidate x.addr m)

/-- The invalidation notices that the Gate Unit has been handed, and those that the Menu Map will hand it (R97). -/
def gateQueue (s : State) : List Addr :=
  s.passage.notices.gate ++ invalidations s.passage.notices.menuMap s.menuMap

def gateWatch : Watcher Addr GateUnit := ⟨gateQueue, (·.gate), gateInvalidated⟩

/-! ### Each by its own block alone -/

theorem followerWatch_local : followerWatch.Local := fun x s t (h : t.follower = s.follower) => by
  show (historyNotice x.addr t).follower = (historyNotice x.addr s).follower
  simp [historyNotice, h]

theorem menuWatch_local : menuWatch.Local := fun x _ _ h => congrArg (menuInvalidate x.addr) h

theorem gateWatch_local : gateWatch.Local := fun x s t (h : t.gate = s.gate) => by
  show (gateInvalidated x t).gate = (gateInvalidated x s).gate
  simp [gateInvalidated, h]

/-- R44: a notice takes its address off the Consumption List. -/
theorem passNotice_pass (a : Addr) (s : State) : (passNotice a s).pass =
    { s.pass with consumption := s.pass.consumption.filter (fun c => c.addr != a) } := by
  unfold passNotice
  split_ifs with listed
  · simp
  · have absent : s.pass.consumption.filter (fun c => c.addr != a) = s.pass.consumption :=
      List.filter_eq_self.2 (by simpa using listed)
    rw [absent]

theorem passWatch_local : passWatch.Local := fun x s t (h : t.pass = s.pass) => by
  show (passNotice x.addr t).pass = (passNotice x.addr s).pass
  rw [passNotice_pass, passNotice_pass, h]

theorem trackerWatch_local : trackerWatch.Local := fun x s t (h : t.tracker = s.tracker) => by
  show (trackNotice x.addr t).tracker = (trackNotice x.addr s).tracker
  unfold trackNotice
  simp only [h, State.setTracker_tracker]
  split
  · split_ifs <;> simp
  · simp

section
variable {s t : State} (h : t.reports = s.reports)
include h

theorem enterClaim_reports_congr (r : Report) (i : Nat) :
    (enterClaim r i t).reports = (enterClaim r i s).reports := by
  simp [enterClaim, h]

theorem enterWaiting_reports_congr (o : WriteOut) : (enterWaiting o t).reports = (enterWaiting o s).reports := by
  simp [enterWaiting, h]

theorem applyRing_reports_congr (r : Ring) : (applyRing r t).reports = (applyRing r s).reports := by
  unfold applyRing
  simp only [h, State.setReports_reports]
  split
  · exact takeNext_reports_congr rfl
  · split
    · refine enterClaim_reports_congr ?_ _ _
      simp [enterWaiting]
    · exact enterClaim_reports_congr rfl _ _
    all_goals rfl

theorem afterFill_reports_congr : (afterFill t).reports = (afterFill s).reports := by
  unfold afterFill
  rw [h]
  repeat' split
  · exact applyRing_reports_congr h _
  · rfl
  · exact h

theorem reportsNotice_reports_congr (a : Addr) (d : Word) :
    (reportsNotice a d t).reports = (reportsNotice a d s).reports := by
  have set (w : ReportWriter) : (t.setReports w).reports = (s.setReports w).reports := rfl
  have wait (o : WriteOut) (w : ReportWriter) : (afterWithdrawal (enterWaiting o (t.setReports w))).reports =
      (afterWithdrawal (enterWaiting o (s.setReports w))).reports := by
    simpa using enterWaiting_reports_congr (set w) o
  unfold reportsNotice
  simp only [h, State.setReports_reports]
  generalize (if d = 0 then SlotState.free else .occupied) = state
  repeat' split
  · exact h
  · exact h
  · exact afterFill_reports_congr (wait _ _)
  · rfl
  · rfl
  · exact enterClaim_reports_congr (set _) _ _
  · exact wait _ _
  · rfl
  · rfl

end

theorem reportsWatch_local : reportsWatch.Local := fun x _ _ h => reportsNotice_reports_congr h x.addr x.data

/-! ### Each watcher's taking -/

theorem Watcher.Local.took_of_takeOldest {α β : Type} {w : Watcher α β} (hw : w.Local) {s u : State} (n : Nat)
    (hpart : w.part u = w.part s) (hqueue : w.queue (takeOldest n (w.queue s) w.react u) = (w.queue s).drop n) :
    w.Took s (takeOldest n (w.queue s) w.react u) :=
  ⟨n, hqueue, hw.handle _ hpart⟩

theorem SamePassage.lockHeld {s t : State} (h : SamePassage s t) : t.passage.lockHeld = s.passage.lockHeld := by
  rw [SamePassage] at h
  rw [h]

@[simp] theorem passNotice_lockHeld (a : Addr) (s : State) :
    (passNotice a s).passage.lockHeld = s.passage.lockHeld := (samePassage_passNotice a s).lockHeld

@[simp] theorem trackNotice_lockHeld (a : Addr) (s : State) :
    (trackNotice a s).passage.lockHeld = s.passage.lockHeld := (samePassage_trackNotice a s).lockHeld

@[simp] theorem reportsNotice_lockHeld (a : Addr) (d : Word) (s : State) :
    (reportsNotice a d s).passage.lockHeld = s.passage.lockHeld := (samePassage_reportsNotice a d s).lockHeld

section
variable (n : Nat) (s : State)

theorem followerTakes_blocks :
    (followerTakes n s).menuMap = s.menuMap ∧ (followerTakes n s).gate = s.gate ∧
    (followerTakes n s).pass = s.pass ∧ (followerTakes n s).tracker = s.tracker ∧
    (followerTakes n s).reports = s.reports ∧ (followerTakes n s).passage.lockHeld = s.passage.lockHeld :=
  takeOldest_keeps (P := fun t => t.menuMap = s.menuMap ∧ t.gate = s.gate ∧ t.pass = s.pass ∧
    t.tracker = s.tracker ∧ t.reports = s.reports ∧ t.passage.lockHeld = s.passage.lockHeld)
    (fun _ _ h => by simpa using h) n _ (by simp)

theorem menuTakes_blocks :
    (menuTakes n s).follower = s.follower ∧ (menuTakes n s).gate = s.gate ∧ (menuTakes n s).pass = s.pass ∧
    (menuTakes n s).tracker = s.tracker ∧ (menuTakes n s).reports = s.reports ∧
    (menuTakes n s).passage.lockHeld = s.passage.lockHeld :=
  takeOldest_keeps (P := fun t => t.follower = s.follower ∧ t.gate = s.gate ∧ t.pass = s.pass ∧
    t.tracker = s.tracker ∧ t.reports = s.reports ∧ t.passage.lockHeld = s.passage.lockHeld)
    (fun _ _ h => by simpa [menuNotice] using h) n _ (by simp)

theorem gateTakes_blocks :
    (gateTakes n s).follower = s.follower ∧ (gateTakes n s).menuMap = s.menuMap ∧ (gateTakes n s).pass = s.pass ∧
    (gateTakes n s).tracker = s.tracker ∧ (gateTakes n s).reports = s.reports ∧
    (gateTakes n s).passage.lockHeld = s.passage.lockHeld :=
  takeOldest_keeps (P := fun t => t.follower = s.follower ∧ t.menuMap = s.menuMap ∧ t.pass = s.pass ∧
    t.tracker = s.tracker ∧ t.reports = s.reports ∧ t.passage.lockHeld = s.passage.lockHeld)
    (fun _ _ h => by simpa using h) n _ (by simp)

theorem passTakes_blocks :
    (passTakes n s).follower = s.follower ∧ (passTakes n s).menuMap = s.menuMap ∧ (passTakes n s).gate = s.gate ∧
    (passTakes n s).tracker = s.tracker ∧ (passTakes n s).reports = s.reports ∧
    (passTakes n s).passage.lockHeld = s.passage.lockHeld :=
  takeOldest_keeps (P := fun t => t.follower = s.follower ∧ t.menuMap = s.menuMap ∧ t.gate = s.gate ∧
    t.tracker = s.tracker ∧ t.reports = s.reports ∧ t.passage.lockHeld = s.passage.lockHeld)
    (fun _ _ h => by simpa using h) n _ (by simp)

theorem trackerTakes_blocks :
    (trackerTakes n s).follower = s.follower ∧ (trackerTakes n s).menuMap = s.menuMap ∧
    (trackerTakes n s).gate = s.gate ∧ (trackerTakes n s).pass = s.pass ∧ (trackerTakes n s).reports = s.reports ∧
    (trackerTakes n s).passage.lockHeld = s.passage.lockHeld :=
  takeOldest_keeps (P := fun t => t.follower = s.follower ∧ t.menuMap = s.menuMap ∧ t.gate = s.gate ∧
    t.pass = s.pass ∧ t.reports = s.reports ∧ t.passage.lockHeld = s.passage.lockHeld)
    (fun _ _ h => by simpa using h) n _ (by simp)

theorem reportsTakes_blocks :
    (reportsTakes n s).follower = s.follower ∧ (reportsTakes n s).menuMap = s.menuMap ∧
    (reportsTakes n s).gate = s.gate ∧ (reportsTakes n s).pass = s.pass ∧ (reportsTakes n s).tracker = s.tracker ∧
    (reportsTakes n s).passage.lockHeld = s.passage.lockHeld :=
  takeOldest_keeps (P := fun t => t.follower = s.follower ∧ t.menuMap = s.menuMap ∧ t.gate = s.gate ∧
    t.pass = s.pass ∧ t.tracker = s.tracker ∧ t.passage.lockHeld = s.passage.lockHeld)
    (fun _ _ h => by simpa using h) n _ (by simp)

/-- R97: what the Menu Map takes it hands on, so that the Gate Unit's list, with what is still to come, stays. -/
theorem gateQueue_menuTakes : gateQueue (menuTakes n s) = gateQueue s := by
  have handed (l r : List Notice) {t : State} (ht : t.passage.notices.menuMap = r) :
      gateQueue (menuWatch.handle l t) = t.passage.notices.gate ++ invalidations (l ++ r) t.menuMap := by
    induction l generalizing t with
    | nil => exact ht ▸ rfl
    | cons x l ih =>
      have hx := ih (t := menuNotice x.addr t) ht
      rw [menuNotice_notices, List.append_assoc] at hx
      exact hx
  have all := handed (s.passage.notices.menuMap.take n) (s.passage.notices.menuMap.drop n)
    (t := s.setNotices { s.passage.notices with menuMap := s.passage.notices.menuMap.drop n }) rfl
  rw [List.take_append_drop] at all
  exact all

end

/-- Each of the six has taken some of its list, the Gate Unit nothing before the Menu Map has handed it anything, and
the port has not been locked. -/
structure NoticesTook (s t : State) : Prop where
  follower : followerWatch.Took s t
  menuMap : menuWatch.Took s t
  gate : gateWatch.Took s t
  pass : passWatch.Took s t
  tracker : trackerWatch.Took s t
  reports : reportsWatch.Took s t
  unhanded : t.passage.notices.menuMap = s.passage.notices.menuMap → s.passage.notices.gate = [] →
    t.gate = s.gate ∧ t.passage.notices.gate = []
  lock : t.passage.lockHeld = true → s.passage.lockHeld = true

namespace NoticesTook

theorem trans {s t u : State} (h : NoticesTook s t) (g : NoticesTook t u) : NoticesTook s u where
  follower := h.follower.trans followerWatch_local g.follower
  menuMap := h.menuMap.trans menuWatch_local g.menuMap
  gate := h.gate.trans gateWatch_local g.gate
  pass := h.pass.trans passWatch_local g.pass
  tracker := h.tracker.trans trackerWatch_local g.tracker
  reports := h.reports.trans reportsWatch_local g.reports
  unhanded same none := by
    have same' : t.passage.notices.menuMap = s.passage.notices.menuMap :=
      h.menuMap.rest.eq_of_length_le ((congrArg List.length same).symm.le.trans g.menuMap.rest.length_le)
    obtain ⟨gate, none⟩ := h.unhanded same' none
    obtain ⟨gate', none⟩ := g.unhanded (same.trans same'.symm) none
    exact ⟨gate'.trans gate, none⟩
  lock := h.lock ∘ g.lock

/-- Where neither the lists nor the blocks change, none has taken anything. -/
theorem of_same {s t : State} (notices : t.passage.notices = s.passage.notices) (follower : t.follower = s.follower)
    (menuMap : t.menuMap = s.menuMap) (gate : t.gate = s.gate) (pass : t.pass = s.pass)
    (tracker : t.tracker = s.tracker) (reports : t.reports = s.reports)
    (lock : t.passage.lockHeld = true → s.passage.lockHeld = true) : NoticesTook s t where
  follower := .of_same (congrArg (·.follower) notices) follower
  menuMap := .of_same (congrArg (·.menuMap) notices) menuMap
  gate := .of_same (by simp [gateWatch, gateQueue, notices, menuMap]) gate
  pass := .of_same (congrArg (·.pass) notices) pass
  tracker := .of_same (congrArg (·.tracker) notices) tracker
  reports := .of_same (congrArg (·.reports) notices) reports
  unhanded _ none := ⟨gate, (congrArg (·.gate) notices).trans none⟩
  lock := lock

theorem refl (s : State) : NoticesTook s s := of_same rfl rfl rfl rfl rfl rfl rfl id

theorem afterDraw (s : State) : NoticesTook s (afterDraw s) := of_same rfl rfl rfl rfl rfl rfl rfl id

theorem endPair (s : State) : NoticesTook s (endPair s) := by
  unfold Machine.endPair
  split_ifs
  · exact of_same rfl rfl rfl rfl rfl rfl rfl nofun
  · exact refl s

theorem breakLock (c : BusCycle) (s : State) : NoticesTook s (breakLock c s) :=
  of_same (by simp) (by simp) (by simp) (by simp) (by simp) (by simp) (by simp)
    (by cases c <;> simp [Machine.breakLock, setLock])

section
variable (n : Nat) (s : State)

theorem followerTakes : NoticesTook s (followerTakes n s) := by
  obtain ⟨menuMap, gate, pass, tracker, reports, lock⟩ := followerTakes_blocks n s
  have lists := followerTakes_notices n s
  exact {
    follower := followerWatch_local.took_of_takeOldest n rfl (congrArg (·.follower) lists)
    menuMap := .of_same (congrArg (·.menuMap) lists) menuMap
    gate := .of_same (by simp [gateWatch, gateQueue, lists, menuMap]) gate
    pass := .of_same (congrArg (·.pass) lists) pass
    tracker := .of_same (congrArg (·.tracker) lists) tracker
    reports := .of_same (congrArg (·.reports) lists) reports
    unhanded := fun _ none => ⟨gate, (congrArg (·.gate) lists).trans none⟩
    lock := lock.symm.trans }

theorem menuTakes : NoticesTook s (menuTakes n s) := by
  obtain ⟨follower, gate, pass, tracker, reports, lock⟩ := menuTakes_blocks n s
  obtain ⟨_, lists⟩ := menuTakes_notices n s
  have unhanded (same : (Machine.menuTakes n s).passage.notices.menuMap = s.passage.notices.menuMap)
      (none : s.passage.notices.gate = []) :
      (Machine.menuTakes n s).gate = s.gate ∧ (Machine.menuTakes n s).passage.notices.gate = [] := by
    have untaken : s.passage.notices.menuMap.take n = [] := by
      rw [lists] at same
      exact List.append_left_eq_self.1 ((congrArg _ same.symm).trans (List.take_append_drop n _))
    simp [Machine.menuTakes, takeOldest, untaken, none]
  exact {
    follower := .of_same (congrArg (·.follower) lists) follower
    menuMap := menuWatch_local.took_of_takeOldest n rfl (congrArg (·.menuMap) lists)
    gate := .of_same (gateQueue_menuTakes n s) gate
    pass := .of_same (congrArg (·.pass) lists) pass
    tracker := .of_same (congrArg (·.tracker) lists) tracker
    reports := .of_same (congrArg (·.reports) lists) reports
    unhanded := unhanded
    lock := lock.symm.trans }

theorem gateTakes (hn : n ≤ s.passage.notices.gate.length) : NoticesTook s (gateTakes n s) := by
  obtain ⟨follower, menuMap, pass, tracker, reports, lock⟩ := gateTakes_blocks n s
  have lists := gateTakes_notices n s
  have gate : gateWatch.Took s (Machine.gateTakes n s) := by
    refine ⟨n, ?_, ?_⟩
    · simp [gateWatch, gateQueue, lists, menuMap, List.drop_append_of_le_length hn]
    · have list : (gateWatch.queue s).take n = s.passage.notices.gate.take n := List.take_append_of_le_length hn
      rw [list]
      exact gateWatch_local.handle _ rfl
  exact {
    follower := .of_same (congrArg (·.follower) lists) follower
    menuMap := .of_same (congrArg (·.menuMap) lists) menuMap
    gate := gate
    pass := .of_same (congrArg (·.pass) lists) pass
    tracker := .of_same (congrArg (·.tracker) lists) tracker
    reports := .of_same (congrArg (·.reports) lists) reports
    unhanded := fun _ none => by simp [Machine.gateTakes, takeOldest, none]
    lock := lock.symm.trans }

theorem passTakes : NoticesTook s (passTakes n s) := by
  obtain ⟨follower, menuMap, gate, tracker, reports, lock⟩ := passTakes_blocks n s
  have lists := passTakes_notices n s
  exact {
    follower := .of_same (congrArg (·.follower) lists) follower
    menuMap := .of_same (congrArg (·.menuMap) lists) menuMap
    gate := .of_same (by simp [gateWatch, gateQueue, lists, menuMap]) gate
    pass := passWatch_local.took_of_takeOldest n rfl (congrArg (·.pass) lists)
    tracker := .of_same (congrArg (·.tracker) lists) tracker
    reports := .of_same (congrArg (·.reports) lists) reports
    unhanded := fun _ none => ⟨gate, (congrArg (·.gate) lists).trans none⟩
    lock := lock.symm.trans }

theorem trackerTakes : NoticesTook s (trackerTakes n s) := by
  obtain ⟨follower, menuMap, gate, pass, reports, lock⟩ := trackerTakes_blocks n s
  have lists := trackerTakes_notices n s
  exact {
    follower := .of_same (congrArg (·.follower) lists) follower
    menuMap := .of_same (congrArg (·.menuMap) lists) menuMap
    gate := .of_same (by simp [gateWatch, gateQueue, lists, menuMap]) gate
    pass := .of_same (congrArg (·.pass) lists) pass
    tracker := trackerWatch_local.took_of_takeOldest n rfl (congrArg (·.tracker) lists)
    reports := .of_same (congrArg (·.reports) lists) reports
    unhanded := fun _ none => ⟨gate, (congrArg (·.gate) lists).trans none⟩
    lock := lock.symm.trans }

theorem reportsTakes : NoticesTook s (reportsTakes n s) := by
  obtain ⟨follower, menuMap, gate, pass, tracker, lock⟩ := reportsTakes_blocks n s
  have lists := reportsTakes_notices n s
  exact {
    follower := .of_same (congrArg (·.follower) lists) follower
    menuMap := .of_same (congrArg (·.menuMap) lists) menuMap
    gate := .of_same (by simp [gateWatch, gateQueue, lists, menuMap]) gate
    pass := .of_same (congrArg (·.pass) lists) pass
    tracker := .of_same (congrArg (·.tracker) lists) tracker
    reports := reportsWatch_local.took_of_takeOldest n rfl (congrArg (·.reports) lists)
    unhanded := fun _ none => ⟨gate, (congrArg (·.gate) lists).trans none⟩
    lock := lock.symm.trans }

end

/-- A free number of a list taken, where any number of it may be. -/
theorem takeSome {length : Nat} {take : Nat → State → State} {s : State}
    (ht : ∀ n ≤ length, NoticesTook (Machine.afterDraw s) (take n (Machine.afterDraw s))) :
    NoticesTook s (takeSome length take s) := by
  rcases takeSome_spec length take s with ⟨_, e⟩ | ⟨n, hn, e⟩ <;> rw [e]
  · exact refl s
  · exact (afterDraw s).trans (ht n hn)

/-- The watchers take some of the notices (R162). -/
theorem meetNotices (s : State) : NoticesTook s (meetNotices s) := by
  unfold Machine.meetNotices
  dsimp only
  split_ifs
  · exact refl s
  · refine trans ?_ (endPair _)
    refine trans ?_ (takeSome fun n _ => reportsTakes n _)
    refine trans ?_ (takeSome fun n _ => trackerTakes n _)
    refine trans ?_ (takeSome fun n _ => passTakes n _)
    refine trans ?_ (takeSome fun n hn => gateTakes n _ hn)
    refine trans ?_ (takeSome fun n _ => menuTakes n _)
    exact takeSome fun n _ => followerTakes n _

/-- The watchers take every notice (R162). -/
theorem settleNotices (s : State) : NoticesTook s (settleNotices s) := by
  unfold Machine.settleNotices
  dsimp only
  split_ifs
  · exact refl s
  · refine trans ?_ (endPair _)
    refine trans ?_ (reportsTakes _ _)
    refine trans ?_ (trackerTakes _ _)
    refine trans ?_ (passTakes _ _)
    refine trans ?_ (gateTakes _ _ le_rfl)
    refine trans ?_ (menuTakes _ _)
    exact followerTakes _ _

end NoticesTook

/-! ### When every notice is taken -/

section
variable {s t : State} (h : NoticesTook s t)
include h

/-- Once every notice is taken each block is as after its list. -/
theorem NoticesTook.blocks (taken : NoticesTaken t) :
    t.follower = (followerWatch.handle (followerWatch.queue s) s).follower ∧
    t.menuMap = (menuWatch.handle (menuWatch.queue s) s).menuMap ∧
    t.gate = (gateWatch.handle (gateWatch.queue s) s).gate ∧
    t.pass = (passWatch.handle (passWatch.queue s) s).pass ∧
    t.tracker = (trackerWatch.handle (trackerWatch.queue s) s).tracker ∧
    t.reports = (reportsWatch.handle (reportsWatch.queue s) s).reports :=
  ⟨h.follower.part_of_all (congrArg (·.follower) taken), h.menuMap.part_of_all (congrArg (·.menuMap) taken),
    h.gate.part_of_all (by simp [gateWatch, gateQueue, taken, Notices.none, invalidations]),
    h.pass.part_of_all (congrArg (·.pass) taken), h.tracker.part_of_all (congrArg (·.tracker) taken),
    h.reports.part_of_all (congrArg (·.reports) taken)⟩

/-- What is left of the lists leads where the whole would have led. -/
theorem NoticesTook.someTaken (beside : SameBesideNotices s t) : SomeTaken s t := by
  obtain ⟨follower, menuMap, gate, pass, tracker, reports⟩ :=
    (NoticesTook.settleNotices s).blocks (settleNotices_taken s)
  obtain ⟨follower', menuMap', gate', pass', tracker', reports'⟩ :=
    (h.trans (.settleNotices t)).blocks (settleNotices_taken t)
  obtain ⟨h₁, h₂, h₃, h₄, h₅, h₆, h₇, h₈, h₉, h₁₀, port⟩ := beside
  exact {
    followerRest := h.follower.rest
    menuMapRest := h.menuMap.rest
    passRest := h.pass.rest
    trackerRest := h.tracker.rest
    reportsRest := h.reports.rest
    follower := follower'.trans follower.symm
    menuMap := menuMap'.trans menuMap.symm
    gate := gate'.trans gate.symm
    pass := pass'.trans pass.symm
    tracker := tracker'.trans tracker.symm
    reports := reports'.trans reports.symm
    aside := ⟨h₁, h₂, h₃, h₄, h₅, h₆, h₇, h₈, h₉, h₁₀⟩
    passage := port }

end

end Sys2Proof.Machine
end

section
/-! # What every command answers (R92, R162)

No meaning stops, and the frames of the operations keep the queue and the time base. What an event finds still to be
taken it meets first: each watcher and each receiver takes some of its own. -/

namespace Sys2Proof.Machine

/-! ### Every command answers -/

/-- No command stops, and none touches the queue or, POWER_UP aside, the time base. -/
theorem exec_next (c : Instr) (s : State) :
    ∃ t, exec c s = .next t ∧ t.pending = s.pending ∧ ((∀ v, c ≠ .powerUp v) → t.time = s.time) := by
  cases c with
  | powerUp v => exact ⟨_, rfl, by simp, fun h => absurd rfl (h v)⟩
  | _ => refine ⟨_, rfl, ?_⟩; (repeat' split) <;> simp

/-! ### What is met -/

theorem someResultsTaken_meetResults (s : State) : SomeResultsTaken s (meetResults s) := meetResults_spec s

theorem someMet_meet (s : State) : SomeMet s (meet s) :=
  ⟨meetNotices s, (NoticesTook.meetNotices s).someTaken (meetNotices_beside s), someResultsTaken_meetResults _⟩

theorem samePort_breakLock (c : BusCycle) (s : State) : SamePort s (breakLock c s) := by
  cases c <;> exact ⟨rfl, rfl, rfl⟩

/-- The lock that a presented cycle breaks changes nothing of what is met. -/
theorem someMet_meet_breakLock (c : BusCycle) (s : State) : SomeMet s (meet (breakLock c s)) := by
  refine ⟨meetNotices (breakLock c s), ?_, someResultsTaken_meetResults _⟩
  refine ((NoticesTook.breakLock c s).trans (.meetNotices _)).someTaken ?_
  simpa [SameBesideNotices, SamePort] using samePort_breakLock c s

/-- A released lock stays released whatever is met (R160). -/
theorem lock_released_meet {s : State} (h : s.passage.lockHeld = false) : (meet s).passage.lockHeld = false := by
  have met : (meet s).passage = (meetNotices s).passage := by simp [meet]
  rw [met]
  exact Bool.eq_false_of_not_eq_true (mt (NoticesTook.meetNotices s).lock (by simp [h]))

/-! ### A cycle at a free port -/

theorem passingCommands_presents {a : Addr} {d : Word} {x y : Coord} {p : Instr × BusCycle}
    (hp : p ∈ passingCommands a d x y) : p.2 ≠ .idle ∧ ∀ s, exec p.1 s = .next (present p.2 s) := by
  simp only [passingCommands, List.mem_cons, List.not_mem_nil, or_false] at hp
  rcases hp with rfl | rfl | rfl | rfl | rfl <;> exact ⟨by simp, fun _ => rfl⟩

theorem lock_broken {a : Addr} {d : Word} {x y : Coord} {p : Instr × BusCycle}
    (hp : p ∈ passingCommands a d x y) (h : p.1 ≠ .lockedPWrite a d) (s : State) :
    (breakLock p.2 s).passage.lockHeld = false := by
  simp only [passingCommands, List.mem_cons, List.not_mem_nil, or_false] at hp
  rcases hp with rfl | rfl | rfl | rfl | rfl
  case inr.inr.inr.inr => exact absurd rfl h
  all_goals rfl

/-- Settles O2: a command's frames, and the cycle or the event after what it meets. -/
theorem everyCommandAnswersANextState : Obligations.EveryCommandAnswersANextState := by
  refine ⟨exec_next, fun a d x y s port _ p hp => ?_, fun x y v s _ p hp due => ?_⟩
  · obtain ⟨passing, presents⟩ := passingCommands_presents hp
    exact ⟨_, someMet_meet_breakLock p.2 s, fun h => lock_released_meet (lock_broken hp h s),
      (presents s).trans (congrArg Host.Outcome.next (present_open passing port))⟩
  · refine ⟨meet s, someMet_meet s, ?_⟩
    simp only [List.mem_cons, List.not_mem_nil, or_false] at hp
    rcases hp with rfl | rfl | rfl | rfl | rfl | rfl | rfl | rfl
    · rfl
    · exact congrArg Host.Outcome.next (if_pos due)
    · exact congrArg Host.Outcome.next (if_pos due)
    · exact congrArg Host.Outcome.next (if_pos due)
    · exact congrArg Host.Outcome.next (if_pos due)
    · exact congrArg Host.Outcome.next (if_pos (of_decide_eq_true due))
    · exact congrArg Host.Outcome.next (if_pos (of_decide_eq_true due))
    · rfl

end Sys2Proof.Machine
end

section
/-! # A P-write marks stale what was taken from its text (R97, R104, R106, R114, R116)

The invalidation notices of one P-write change the Gate Unit as one: what was taken from any of their texts is marked.
A P-write that meets a lone result is then told apart by which of the two the Gate Unit takes first. -/

namespace Sys2Proof.Machine

/-! ### Invalidation notices at the Gate Unit -/

/-- The stale mark of what was taken from an item that is hit (R106, R114). -/
def Snapshot.staleWhere (hit : ItemDesc → Bool) (x : Snapshot) : Snapshot :=
  if x.item.any hit then { x with stale := true } else x

/-- The Gate Unit once what was taken from an item that is hit has been invalidated (R106, R114, R116). -/
def GateUnit.invalidatedBy (hit : ItemDesc → Bool) (u : GateUnit) : GateUnit :=
  { u with
    tally := u.tally.map (fun e => { e with latest := e.latest.staleWhere hit })
    dwell := { u.dwell with
      snapshot := u.dwell.snapshot.map (·.staleWhere hit)
      candidate := u.dwell.candidate.map (fun c => (c.1, c.2.staleWhere hit)) }
    hover := u.hover.filter (fun h => !hit h.item) }

theorem Snapshot.staleWhere_item (hit : ItemDesc → Bool) (x : Snapshot) : (x.staleWhere hit).item = x.item := by
  unfold Snapshot.staleWhere
  split_ifs <;> rfl

theorem Snapshot.staleWhere_stale {hit : ItemDesc → Bool} {x : Snapshot} {i : ItemDesc} (hx : x.item = some i)
    (hi : hit i = true) : (x.staleWhere hit).stale = true := by
  simp [Snapshot.staleWhere, hx, hi]

theorem Snapshot.staleWhere_none (x : Snapshot) : x.staleWhere (fun _ => false) = x := by
  cases h : x.item <;> simp [Snapshot.staleWhere, h]

theorem Snapshot.staleWhere_or (p q : ItemDesc → Bool) (x : Snapshot) :
    (x.staleWhere p).staleWhere q = x.staleWhere (fun i => p i || q i) := by
  cases h : x.item with
  | none => simp [Snapshot.staleWhere, h]
  | some i => cases hp : p i <;> cases hq : q i <;> simp [Snapshot.staleWhere, h, hp, hq]

theorem GateUnit.invalidatedBy_none (u : GateUnit) : u.invalidatedBy (fun _ => false) = u := by
  have hover : u.hover.filter (fun _ => true) = u.hover := by cases u.hover <;> rfl
  simp [GateUnit.invalidatedBy, Snapshot.staleWhere_none, hover]

theorem GateUnit.invalidatedBy_or (p q : ItemDesc → Bool) (u : GateUnit) :
    (u.invalidatedBy p).invalidatedBy q = u.invalidatedBy (fun i => p i || q i) := by
  simp [GateUnit.invalidatedBy, Snapshot.staleWhere_or, Function.comp_def, Option.filter_filter]

theorem gateInvalidated_gate (text : Addr) (s : State) :
    (gateInvalidated text s).gate = s.gate.invalidatedBy (fun i => i.textAddr == text) := rfl

/-- The notices of several texts invalidate what was taken from any of them. -/
theorem gateWatch_handle (texts : List Addr) (s : State) :
    (gateWatch.handle texts s).gate = s.gate.invalidatedBy (fun i => texts.contains i.textAddr) := by
  induction texts generalizing s with
  | nil => exact s.gate.invalidatedBy_none.symm
  | cons text texts ih =>
    refine (ih (gateInvalidated text s)).trans ?_
    rw [gateInvalidated_gate, GateUnit.invalidatedBy_or]
    simp only [List.contains_cons]

/-! ### A P-write's notice at the Gate Unit -/

/-- A P-write at an address hits the text of an item: a valid Menu Map entry of that text spans the address (R97). -/
def textHit (a : Addr) (m : List MenuEntry) (i : ItemDesc) : Bool :=
  m.any (fun e => e.valid && inSpan a e.addr (1 + (e.count + 2) / 3) && e.addr == i.textAddr)

theorem invalidatedTexts_contains (a : Addr) (m : List MenuEntry) (i : ItemDesc) :
    (invalidatedTexts a m).contains i.textAddr = textHit a m i := by
  rw [Bool.eq_iff_iff]
  simp only [List.contains_iff_mem, invalidatedTexts, textHit, MenuEntry.covers, List.mem_map, List.mem_filter,
    List.any_eq_true, Bool.and_eq_true, beq_iff_eq]
  grind

section
variable (a : Addr) (d : Word) {u : State} (taken : NoticesTaken u)

/-- The state in which the watchers meet the notice of a P-write (R161). -/
def noticeGiven (u : State) : State :=
  (arrayWrite a d u).setNotices (u.passage.notices.offer { addr := a, data := d })

theorem carryPWrite_took (l : List BusCycle) : NoticesTook (noticeGiven a d u) (hold l (carryPWrite a d u)) := by
  have given : carryPWrite a d u = meetNotices (noticeGiven a d u) := by
    simp [carryPWrite, giveNotice, noticeGiven]
  rw [given]
  exact (NoticesTook.meetNotices _).trans (.of_same rfl rfl rfl rfl rfl rfl rfl id)

include taken

theorem gateQueue_noticeGiven : gateQueue (noticeGiven a d u) = invalidatedTexts a u.menuMap := by
  simp [gateQueue, noticeGiven, taken, Notices.none, Notices.offer, invalidations]

theorem noticeGiven_handled : (gateWatch.handle (gateWatch.queue (noticeGiven a d u)) (noticeGiven a d u)).gate =
    u.gate.invalidatedBy (textHit a u.menuMap) := by
  have texts : gateWatch.queue (noticeGiven a d u) = invalidatedTexts a u.menuMap := gateQueue_noticeGiven a d taken
  rw [texts, gateWatch_handle, funext (invalidatedTexts_contains a u.menuMap)]
  simp [noticeGiven]

/-- Nothing changes at the Gate Unit before the Menu Map has taken the notice (R97). -/
theorem carryPWrite_before_map (l : List BusCycle)
    (waits : (hold l (carryPWrite a d u)).passage.notices.menuMap ≠ []) :
    (hold l (carryPWrite a d u)).gate = u.gate ∧ (hold l (carryPWrite a d u)).passage.notices.gate = [] := by
  have took := carryPWrite_took a d (u := u) l
  have list : (noticeGiven a d u).passage.notices.menuMap = [{ addr := a, data := d }] := by
    simp [noticeGiven, taken, Notices.none, Notices.offer]
  have rest : (hold l (carryPWrite a d u)).passage.notices.menuMap <:+ [{ addr := a, data := d }] :=
    list ▸ took.menuMap.rest
  have same := ((List.suffix_cons_iff.1 rest).resolve_right (fun h => waits (List.suffix_nil.1 h))).trans list.symm
  simpa [noticeGiven] using took.unhanded same (by simp [noticeGiven, taken, Notices.none, Notices.offer])

/-- Once the Gate Unit has taken what the Menu Map makes of a P-write's notice, what was taken from the text written is
invalidated (R106, R114, R116). -/
theorem carryPWrite_after_map (l : List BusCycle)
    (hmap : (hold l (carryPWrite a d u)).passage.notices.menuMap = [])
    (hgate : (hold l (carryPWrite a d u)).passage.notices.gate = []) :
    (hold l (carryPWrite a d u)).gate = u.gate.invalidatedBy (textHit a u.menuMap) :=
  ((carryPWrite_took a d l).gate.part_of_all (by simp [gateWatch, gateQueue, hmap, hgate, invalidations])).trans
    (noticeGiven_handled a d taken)

theorem carryPWrite_settled (l : List BusCycle) : (settleNotices (hold l (carryPWrite a d u))).gate =
    u.gate.invalidatedBy (textHit a u.menuMap) :=
  (((carryPWrite_took a d l).trans (.settleNotices _)).blocks (settleNotices_taken _)).2.2.1.trans
    (noticeGiven_handled a d taken)

end

/-! ### A vote and its mark -/

/-- R104: a key that has just been voted for holds the fields of that vote. -/
theorem gateWinner_latest {w : Winner} {s : State} {g : OpenGate} (hopen : s.gate.gate = some g)
    (late : earlier w.time g.openTime = false) {x : TallyEntry} (hx : x ∈ (gateWinner w s).gate.tally)
    (hkey : x.key = w.key) : x.latest = snapshotOf w s := by
  have voted : x ∈ (castVote g w s).gate.tally := by
    simpa [gateWinner, hopen, late] using hx
  have unheld (held : ¬(s.gate.tally.any fun e => e.key == w.key) = true) : ∀ e ∈ s.gate.tally, e.key ≠ w.key := by
    simpa using held
  unfold castVote at voted
  dsimp only at voted
  split_ifs at voted with held room
  · obtain ⟨e, _, rfl⟩ := List.mem_map.1 voted
    split_ifs at hkey ⊢ with he
    · rfl
    · exact absurd hkey he
  · rcases List.mem_append.1 voted with old | new
    · exact absurd hkey (unheld held x old)
    · exact List.mem_singleton.1 new ▸ rfl
  · exact absurd hkey (unheld held x voted)

/-! ### The P-write -/

section
variable (a : Addr) (d : Word) {s : State}

theorem exec_pWrite_of_granted (h : PassingGranted s) : ∃ u, NoticesTaken u ∧ u.gate = s.gate ∧
    u.menuMap = s.menuMap ∧ exec (.pWrite a d) s = .next (hold [] (carryPWrite a d u)) := by
  have ⟨⟨_, noticesTaken, _⟩, _⟩ := h
  exact ⟨(setLock false s).setPassage { (setLock false s).passage with fairShare := countAfterPassing s },
    noticesTaken, rfl, rfl, congrArg Host.Outcome.next (h.present_carried (c := .pWrite a d) nofun)⟩

theorem ownTurn_of_few (few : s.passage.fairShare < 8) : ownTurn s = false := by
  simp [ownTurn, few]

theorem countPassing_notices (l : List OwnCycle) (s : State) :
    (countPassing l s).passage.notices = s.passage.notices := by
  unfold countPassing
  split_ifs <;> rfl

/-- A P-write that finds a lone winner result still to be taken is carried with it left or met. -/
theorem exec_pWrite_of_winner {w : Winner} (port : PortOpen s) (taken : NoticesTaken s)
    (few : s.passage.fairShare < 8) (handed : s.handed = { gate := [w], tracker := [] }) :
    ∃ v, NoticesTaken v ∧ v.menuMap = s.menuMap ∧ exec (.pWrite a d) s = .next (hold [] (carryPWrite a d v)) ∧
      (v.handed = s.handed ∧ v.gate = s.gate ∨
        v.handed = .none ∧ ∃ r : State, r.gate = s.gate ∧ v.gate = (gateWinner w r).gate) := by
  let r := setLock false s
  have carried (u : State) (hu : meet r = u) (passage : u.passage = r.passage) :
      NoticesTaken (countPassing (ownRequests u) u) ∧
      exec (.pWrite a d) s = .next (hold [] (carryPWrite a d (countPassing (ownRequests u) u))) := by
    have passed : ownTurn (meet r) = false := ownTurn_of_few (by rw [hu, passage]; exact few)
    refine ⟨(countPassing_notices _ u).trans (passage ▸ taken), congrArg Host.Outcome.next ?_⟩
    refine (present_open (c := .pWrite a d) nofun port).trans ?_
    exact (if_neg (Bool.eq_false_iff.1 passed)).trans (hu ▸ rfl)
  obtain ⟨n, hmeet | hmeet⟩ := meet_of_winner (s := r) handed taken
  · obtain ⟨notices, hexec⟩ := carried _ hmeet rfl
    exact ⟨_, notices, by simp [r], hexec, .inl ⟨by simp [r], by simp [r]⟩⟩
  · obtain ⟨notices, hexec⟩ := carried _ hmeet (by simp)
    exact ⟨_, notices, by simp [r], hexec, .inr ⟨by simp, r, rfl, by simp⟩⟩

end

/-- Settles O10: what the P-write's notice does to the Gate Unit, alone and on either side of a lone result's vote. -/
theorem pWriteMarksStalePicks : Obligations.PWriteMarksStalePicks := by
  constructor
  · intro a d s granted hit mark
    obtain ⟨u, taken, gate, menuMap, hexec⟩ := exec_pWrite_of_granted a d granted
    refine ⟨_, hexec, fun waits => ?_, ?_⟩
    · exact gate ▸ carryPWrite_before_map a d taken [] waits
    · rw [carryPWrite_settled a d taken, gate, menuMap]
      rfl
  · intro a d w i e g s port taken few handed item he haddr valid span hopen late
    have hit : textHit a s.menuMap i = true := by
      simp only [textHit, List.any_eq_true, Bool.and_eq_true, beq_iff_eq]
      exact ⟨e, he, ⟨valid, span⟩, haddr⟩
    have late : earlier w.time g.openTime = false := decide_eq_false (Nat.not_le.2 late)
    have latestItem (r : State) : (snapshotOf w r).item = some i := item
    obtain ⟨v, taken, menuMap, hexec, ⟨hhanded, hgate⟩ | ⟨hhanded, r, hr, hgate⟩⟩ :=
      exec_pWrite_of_winner a d port taken few handed
    · have handed : (hold [] (carryPWrite a d v)).handed = { gate := [w], tracker := [] } := by simp [hhanded, handed]
      refine ⟨_, hexec, .inr (congrArg (·.gate) handed), fun met => ?_, fun _ hmap hqueue => ?_⟩
      · exact absurd ((congrArg (·.gate) handed).symm.trans met) (List.cons_ne_nil w [])
      · have marked := carryPWrite_after_map a d taken [] hmap hqueue
        rw [hgate, menuMap] at marked
        refine ⟨fun x hx hi => ?_, fun x hx hkey => ?_⟩
        · rw [marked] at hx
          obtain ⟨y, _, rfl⟩ := List.mem_map.1 hx
          exact Snapshot.staleWhere_stale ((Snapshot.staleWhere_item _ _).symm.trans hi) hit
        · rw [settleResults_of_winner handed] at hx
          have stillOpen : (hold [] (carryPWrite a d v)).gate.gate = some g := (congrArg (·.gate) marked).trans hopen
          exact congrArg (·.stale) (gateWinner_latest stillOpen late hx hkey)
    · have handed : (hold [] (carryPWrite a d v)).handed = .none := by simp [hhanded]
      refine ⟨_, hexec, .inl (congrArg (·.gate) handed), fun _ x hx hkey => ?_, fun left => ?_⟩
      · rw [carryPWrite_settled a d taken, hgate, menuMap] at hx
        obtain ⟨y, hy, rfl⟩ := List.mem_map.1 hx
        have latest := gateWinner_latest (hr ▸ hopen) late hy hkey
        exact Snapshot.staleWhere_stale (latest ▸ latestItem r) hit
      · exact absurd (left.symm.trans (congrArg (·.gate) handed)) (List.cons_ne_nil w [])

end Sys2Proof.Machine
end

section
/-! # A winner result at the Gate Unit (R104, R105, R113, R116)

What a winner result does to the Gate Unit, said as a function of the unit, of the fields the result gives and of
whether it is a DWELL-item winner. -/

namespace Sys2Proof.Machine

/-- A vote cast at an OPEN gate, or a ninth key discarded (R104, R105). -/
def GateUnit.voted (g : OpenGate) (w : Winner) (snap : Snapshot) (u : GateUnit) : GateUnit :=
  if u.tally.any (fun e => e.key == w.key) then
    { u with tally := u.tally.map (fun e => if e.key = w.key then e.vote w snap else e) }
  else if u.tally.length < 8 then
    { u with tally := u.tally ++
        [{ key := w.key, votes := 1, topPriority := w.priority, lastVote := w.time, latest := snap }] }
  else { u with gate := some { g with crowded := true } }

/-- The Dwell Record that has taken a DWELL-item winner (R113). -/
def DwellRecord.taken (w : Winner) (snap : Snapshot) (d : DwellRecord) : DwellRecord :=
  { d with
    candidate := some (w.key, snap)
    won := d.won || d.key = some w.key
    snapshot := if d.key = some w.key then some snap else d.snapshot }

/-- The Hover Record that a winner result leaves (R116). -/
def GateUnit.hoverAfter (w : Winner) (u : GateUnit) : Option HoverRecord :=
  match w.item with
  | some i => if u.active.hover && w.isMenu then some { key := w.key, item := i, won := true } else u.hover
  | none => u.hover

/-- The Gate Unit that has taken a winner result, but for the Hover Record: a vote at an OPEN gate, none where the
strike came before the opening, and the Dwell Record at a CLOSED gate (R104, R113). -/
def GateUnit.counted (w : Winner) (snap : Snapshot) (dwells : Bool) (u : GateUnit) : GateUnit :=
  match u.gate with
  | some g => if earlier w.time g.openTime then u else u.voted g w snap
  | none => if dwells then { u with dwell := u.dwell.taken w snap } else u

section
variable (w : Winner) (s : State)

theorem castVote_eq (g : OpenGate) : castVote g w s = s.setGate (s.gate.voted g w (snapshotOf w s)) := by
  unfold castVote GateUnit.voted
  dsimp only
  rw [apply_ite (State.setGate s), apply_ite (State.setGate s)]

theorem dwellTake_eq : dwellTake w s = s.setGate
    (if isDwellWinner w s then { s.gate with dwell := s.gate.dwell.taken w (snapshotOf w s) } else s.gate) := by
  rw [apply_ite (State.setGate s)]
  rfl

theorem hoverTake_eq : hoverTake w s = s.setGate { s.gate with hover := s.gate.hoverAfter w } := by
  unfold hoverTake GateUnit.hoverAfter
  cases w.item with
  | none => rfl
  | some i =>
    dsimp only
    split_ifs <;> rfl

end

section
variable {w : Winner} {snap : Snapshot} {dwells : Bool} {u : GateUnit}

theorem GateUnit.hoverAfter_of_plain (h : w.item = none) : u.hoverAfter w = u.hover := by
  rw [GateUnit.hoverAfter, h]

theorem GateUnit.voted_aside (g : OpenGate) (w : Winner) (snap : Snapshot) (u : GateUnit) :
    (u.voted g w snap).active = u.active ∧ (u.voted g w snap).hover = u.hover := by
  unfold GateUnit.voted
  split_ifs <;> exact ⟨rfl, rfl⟩

/-- Neither a vote nor the Dwell Record touches what the Hover Record is taken by. -/
theorem GateUnit.counted_hoverAfter : (u.counted w snap dwells).hoverAfter w = u.hoverAfter w := by
  have aside : (u.counted w snap dwells).active = u.active ∧ (u.counted w snap dwells).hover = u.hover := by
    unfold GateUnit.counted
    cases u.gate <;> dsimp only <;> split_ifs
    · exact ⟨rfl, rfl⟩
    · exact ⟨rfl, rfl⟩
    · exact ⟨rfl, rfl⟩
    · exact GateUnit.voted_aside ..
  rw [GateUnit.hoverAfter, GateUnit.hoverAfter, aside.1, aside.2]

theorem GateUnit.counted_of_early {g : OpenGate} (h : u.gate = some g) (early : earlier w.time g.openTime = true) :
    u.counted w snap dwells = u := by
  simp [GateUnit.counted, h, early]

theorem GateUnit.counted_of_open {g : OpenGate} (h : u.gate = some g) (late : earlier w.time g.openTime = false) :
    u.counted w snap dwells = u.voted g w snap := by
  simp [GateUnit.counted, h, late]

theorem GateUnit.counted_of_closed (h : u.gate = none) :
    u.counted w snap dwells = if dwells then { u with dwell := u.dwell.taken w snap } else u := by
  simp only [GateUnit.counted, h]

end

/-- R104, R113, R116: first the vote or the Dwell Record, and then the Hover Record. -/
theorem gateWinner_eq (w : Winner) (s : State) : gateWinner w s = s.setGate
    { s.gate.counted w (snapshotOf w s) (isDwellWinner w s) with hover := s.gate.hoverAfter w } := by
  have counted (u : GateUnit) (h : s.gate.counted w (snapshotOf w s) (isDwellWinner w s) = u) :
      hoverTake w (s.setGate u) = s.setGate { u with hover := s.gate.hoverAfter w } := by
    have hover : u.hoverAfter w = s.gate.hoverAfter w := h ▸ GateUnit.counted_hoverAfter
    rw [hoverTake_eq, State.setGate_gate, hover]
    rfl
  rcases Option.eq_none_or_eq_some s.gate.gate with hg | ⟨g, hg⟩
  · have closed : gateWinner w s = hoverTake w (dwellTake w s) := by simp only [gateWinner, hg]
    rw [closed, dwellTake_eq, ← GateUnit.counted_of_closed hg, counted _ rfl]
  · cases late : earlier w.time g.openTime with
    | true =>
      have unvoted : gateWinner w s = hoverTake w s := by simp [gateWinner, hg, late]
      rw [unvoted, GateUnit.counted_of_early hg late, hoverTake_eq]
    | false =>
      have voted : gateWinner w s = hoverTake w (castVote g w s) := by simp [gateWinner, hg, late]
      rw [voted, castVote_eq, ← GateUnit.counted_of_open hg late, counted _ rfl]

/-- The Gate Unit that has taken a winner result. -/
theorem gateWinner_gate (w : Winner) (s : State) : (gateWinner w s).gate =
    { s.gate.counted w (snapshotOf w s) (isDwellWinner w s) with hover := s.gate.hoverAfter w } :=
  congrArg State.gate (gateWinner_eq w s)

/-! ### What each receiver has taken (R92) -/

/-- The Gate Unit as the receiver of winner results, with what it reads of the state. -/
def gateReceiver : Watcher Winner (GateUnit × LoftUnit × SegmentTable) :=
  ⟨(·.handed.gate), fun s => (s.gate, s.loft, s.segments), gateWinner⟩

/-- The Tracking Unit as the receiver of cross results and sightings, with what it changes and reads of the state. -/
def trackReceiver : Watcher CrossHandOff (Tracker × ReportWriter × Moment × LoftUnit × FrameNo × Time) :=
  ⟨(·.handed.tracker), fun s => (s.tracker, s.reports, s.moment, s.loft, s.follower.frameNo, s.time), takeCross⟩

theorem gateReceiver_local : gateReceiver.Local := by
  intro w s t h
  simp only [gateReceiver, Prod.mk.injEq] at h
  obtain ⟨gate, loft, segments⟩ := h
  have snap : snapshotOf w t = snapshotOf w s := by simp [snapshotOf, loft]
  have dwells : isDwellWinner w t = isDwellWinner w s := by simp [isDwellWinner, attributesOf, segments]
  simp [gateReceiver, gateWinner_gate, gate, loft, segments, snap, dwells]

@[simp] theorem requestReport_moment (r : Report) (s : State) :
    (requestReport r s).moment = { s.moment with reports := s.moment.reports ++ [r] } := by
  simp [requestReport, handReport]

theorem trackReceiver_requestTrack (b : Bool) (v : ViewSettings) {s t : State}
    (h : trackReceiver.part t = trackReceiver.part s) :
    trackReceiver.part (requestTrack b v t) = trackReceiver.part (requestTrack b v s) := by
  simp only [trackReceiver, Prod.mk.injEq] at h
  obtain ⟨tracker, reports, moment, loft, frame, time⟩ := h
  have report : trackReport .track v t = trackReport .track v s := by
    simp [trackReport, newReport, tracker, frame, time]
  simp [trackReceiver, requestTrack, report, requestReport_reports_congr _ reports, tracker, moment, loft, frame, time]

theorem trackReceiver_setTracker (x : Tracker) {s t : State} (h : trackReceiver.part t = trackReceiver.part s) :
    trackReceiver.part (t.setTracker x) = trackReceiver.part (s.setTracker x) := by
  simp only [trackReceiver, Prod.mk.injEq] at h
  simp [trackReceiver, h]

theorem trackReceiver_local : trackReceiver.Local := by
  intro r s t h
  have parts := h
  simp only [trackReceiver, Prod.mk.injEq] at parts
  obtain ⟨tracker, _, _, loft, _, _⟩ := parts
  cases r with
  | sighting at_ =>
    show trackReceiver.part (trackSighting t) = trackReceiver.part (trackSighting s)
    unfold trackSighting
    rw [tracker]
    split_ifs
    · exact h
    · exact trackReceiver_setTracker _ h
  | result at_ x y =>
    show trackReceiver.part (trackCross x y t) = trackReceiver.part (trackCross x y s)
    unfold trackCross
    simp only [tracker, loft, State.setTracker_tracker, State.setTracker_loft]
    split_ifs
    · exact h
    · exact trackReceiver_requestTrack _ _ (trackReceiver_setTracker _ (trackReceiver_setTracker _ h))
    · exact trackReceiver_setTracker _ h

/-- Each receiver has taken some of what it was handed. -/
structure ResultsTook (s t : State) : Prop where
  gate : gateReceiver.Took s t
  tracker : trackReceiver.Took s t

namespace ResultsTook

theorem trans {s t u : State} (h : ResultsTook s t) (g : ResultsTook t u) : ResultsTook s u where
  gate := h.gate.trans gateReceiver_local g.gate
  tracker := h.tracker.trans trackReceiver_local g.tracker

theorem gateResultsTake (n : Nat) (s : State) : ResultsTook s (gateResultsTake n s) where
  gate := gateReceiver_local.took_of_takeOldest n rfl (congrArg (·.gate) (gateResultsTake_handed n s))
  tracker := .of_same (congrArg (·.tracker) (gateResultsTake_handed n s))
    (takeOldest_keeps (P := fun t => trackReceiver.part t = trackReceiver.part s)
      (fun w _ h => by simpa [trackReceiver] using h) n _ rfl)

theorem crossResultsTake (n : Nat) (s : State) : ResultsTook s (crossResultsTake n s) where
  gate := .of_same (congrArg (·.gate) (crossResultsTake_handed n s))
    (takeOldest_keeps (P := fun t => gateReceiver.part t = gateReceiver.part s)
      (fun r _ h => by cases r <;> simpa [gateReceiver, takeCross] using h) n _ rfl)
  tracker := trackReceiver_local.took_of_takeOldest n rfl (congrArg (·.tracker) (crossResultsTake_handed n s))

theorem setChoices (n : Nat) (s : State) : ResultsTook s (s.setChoices n) :=
  ⟨.of_same rfl rfl, .of_same rfl rfl⟩

theorem meetResults (s : State) : ResultsTook s (meetResults s) := by
  obtain ⟨i, _, j, _, n, h⟩ := meetResults_spec s
  exact h ▸ ((gateResultsTake i s).trans (crossResultsTake j _)).trans (setChoices n _)

theorem settleResults (s : State) : ResultsTook s (settleResults s) :=
  (gateResultsTake _ s).trans (crossResultsTake _ _)

end ResultsTook

/-- Once all results are settled none is still to be taken. -/
theorem settleResults_taken (s : State) : ResultsTaken (settleResults s) := by
  simp [ResultsTaken, settleResults, HandOffs.none]

section
variable {α β : Type} {w : Watcher α β} {s t : State}

/-- Of nothing, nothing is taken. -/
theorem Watcher.Took.of_nil (h : w.Took s t) (hq : w.queue s = []) : w.queue t = [] ∧ w.part t = w.part s := by
  obtain ⟨n, hqueue, hpart⟩ := h
  rw [hq, List.drop_nil] at hqueue
  rw [hq, List.take_nil] at hpart
  exact ⟨hqueue, hpart⟩

/-- One handed over alone is still to be taken or has been taken. -/
theorem Watcher.Took.of_one {x : α} (h : w.Took s t) (hq : w.queue s = [x]) :
    (w.queue t = [] ∧ w.part t = w.part (w.react x s)) ∨ (w.queue t = [x] ∧ w.part t = w.part s) := by
  obtain ⟨n, hqueue, hpart⟩ := h
  rw [hq] at hqueue hpart
  cases n with
  | zero => exact .inr ⟨hqueue, hpart⟩
  | succ n =>
    rw [List.take_of_length_le (by simp)] at hpart
    exact .inl ⟨hqueue.trans List.drop_nil, hpart⟩

end

end Sys2Proof.Machine
end

section
/-! # A strike whose newest history entry wins (R68, R79 to R92, R104, R105, R113, R116, R144, R148)

An accepted edge is a strike attributed in the state it leaves, and what it hands over alone is then still to be taken
or has been taken. What it hands over turns on two questions: whether a candidate stands under the cross name, and
whether the newest entry, which the ranking puts before all that do not exceed its priority, resolves. -/

namespace Sys2Proof.Machine

/-! ### One handed over alone (R92) -/

section
variable {s a : State}

theorem ResultTakenOrPending.congr {α β γ : Type} {queue : HandOffs → List α} {part : State → β} {x : α}
    {t : State} (h : ResultTakenOrPending queue part x s t) (f : β → γ) :
    ResultTakenOrPending queue (fun v => f (part v)) x s t :=
  h.imp (And.imp_right (congrArg f)) (And.imp_right (congrArg f))

/-- One handed over alone, and taken in the end, has been taken or is still to be taken in between. -/
theorem Watcher.Local.taken_of_one {α β : Type} {w : Watcher α β} (hl : w.Local) {x : α} {t u : State}
    (before : w.Took a t) (after : w.Took t u) (handed : w.queue a = [x]) (empty : w.queue u = [])
    (same : w.part a = w.part s) :
    ((w.queue t = [] ∧ w.part t = w.part u) ∨ (w.queue t = [x] ∧ w.part t = w.part s)) ∧
      w.part u = w.part (w.react x s) := by
  rcases (before.trans hl after).of_one handed with ⟨_, settled⟩ | ⟨left, _⟩
  · refine ⟨?_, settled.trans (hl x same)⟩
    exact (before.of_one handed).imp (And.imp_right (·.trans settled.symm)) (And.imp_right (·.trans same))
  · exact absurd (left.symm.trans empty) (List.cons_ne_nil x [])

theorem trackReceiver_of_one {r : CrossHandOff} (handed : a.handed.tracker = [r])
    (same : trackReceiver.part a = trackReceiver.part s) :
    ResultTakenOrPending (·.tracker) trackReceiver.part r s (meetResults a) ∧
    trackReceiver.part (settleResults (meetResults a)) = trackReceiver.part (takeCross r s) :=
  trackReceiver_local.taken_of_one (ResultsTook.meetResults a).tracker (ResultsTook.settleResults _).tracker handed
    (congrArg (·.tracker) (settleResults_taken _)) same

theorem gateReceiver_of_one {w : Winner} (handed : a.handed.gate = [w])
    (same : gateReceiver.part a = gateReceiver.part s) :
    ResultTakenOrPending (·.gate) gateReceiver.part w s (meetResults a) ∧
    gateReceiver.part (settleResults (meetResults a)) = gateReceiver.part (gateWinner w s) :=
  gateReceiver_local.taken_of_one (ResultsTook.meetResults a).gate (ResultsTook.settleResults _).gate handed
    (congrArg (·.gate) (settleResults_taken _)) same

/-- The Tracking Unit, handed nothing, takes nothing. -/
theorem tracker_of_none_handed (handed : a.handed.tracker = []) (same : trackReceiver.part a = trackReceiver.part s) :
    (meetResults a).handed.tracker = [] ∧ (meetResults a).tracker = s.tracker ∧
      (meetResults a).reports = s.reports ∧ (meetResults a).moment = s.moment := by
  obtain ⟨empty, kept⟩ := (ResultsTook.meetResults a).tracker.of_nil handed
  have kept := kept.trans same
  simp only [trackReceiver, Prod.mk.injEq] at kept
  obtain ⟨tracker, reports, moment, _⟩ := kept
  exact ⟨empty, tracker, reports, moment⟩

/-- The Gate Unit, handed nothing, takes nothing. -/
theorem gate_of_none_handed (handed : a.handed.gate = []) (same : gateReceiver.part a = gateReceiver.part s) :
    (meetResults a).handed.gate = [] ∧ (meetResults a).gate = s.gate := by
  obtain ⟨empty, kept⟩ := (ResultsTook.meetResults a).gate.of_nil handed
  exact ⟨empty, congrArg Prod.fst (kept.trans same)⟩

/-- R144: a sighting that finds no run is kept for the frame. -/
theorem tracker_of_sighting {now : Time} (handed : a.handed.tracker = [.sighting now])
    (same : trackReceiver.part a = trackReceiver.part s) (off : s.tracker.state = .off) :
    ResultTakenOrPending (·.tracker) (·.tracker) (.sighting now) s (meetResults a) ∧
      (settleResults (meetResults a)).tracker = { s.tracker with sightedThisFrame := true } ∧
      (meetResults a).reports = s.reports ∧ (meetResults a).moment = s.moment := by
  obtain ⟨pending, settled⟩ := trackReceiver_of_one handed same
  rw [takeCross, trackSighting_of_off off] at settled
  have reports : (meetResults a).reports = s.reports :=
    pending.elim (fun h => congrArg (·.2.1) (h.2.trans settled)) (fun h => congrArg (·.2.1) h.2)
  have moment : (meetResults a).moment = s.moment :=
    pending.elim (fun h => congrArg (·.2.2.1) (h.2.trans settled)) (fun h => congrArg (·.2.2.1) h.2)
  exact ⟨pending.congr Prod.fst, congrArg Prod.fst settled, reports, moment⟩

/-- R148: a cross strike is a filter step, with the report of a run taken up again. -/
theorem tracker_of_cross {now : Time} {x y : Coord} (handed : a.handed.tracker = [.result now x y])
    (same : trackReceiver.part a = trackReceiver.part s) :
    ResultTakenOrPending (·.tracker) (fun v => (v.tracker, v.reports)) (.result now x y) s (meetResults a) ∧
      (settleResults (meetResults a)).tracker = (trackCross x y s).tracker ∧
      (settleResults (meetResults a)).reports = (trackCross x y s).reports := by
  obtain ⟨pending, settled⟩ := trackReceiver_of_one handed same
  exact ⟨pending.congr (fun p => (p.1, p.2.1)), congrArg Prod.fst settled, congrArg (·.2.1) settled⟩

/-- A winner is taken by the Gate Unit as it is handed over. -/
theorem gate_of_winner {w : Winner} (handed : a.handed.gate = [w]) (same : gateReceiver.part a = gateReceiver.part s) :
    ResultTakenOrPending (·.gate) (·.gate) w s (meetResults a) ∧
      (settleResults (meetResults a)).gate = (gateWinner w s).gate := by
  obtain ⟨pending, settled⟩ := gateReceiver_of_one handed same
  exact ⟨pending.congr Prod.fst, congrArg Prod.fst settled⟩

end

/-! ### The candidates (R81 to R86) -/

theorem candidates_append (older : List HistoryEntry) (e : HistoryEntry) (t : Time) (tLW : Nat) :
    candidates (older ++ [e]) t tLW = older.filter (fun h => elapsed t h.fetchTime ≤ tLW) ++ [e] := by
  simp [candidates]

theorem underCross_iff (s : State) (c : List HistoryEntry) :
    underCross s.tracker.active.crossName c = true ↔ ∃ h ∈ c, UnderCross s h := by
  simp only [underCross, UnderCross, Bool.and_eq_true, bne_iff_ne, List.any_eq_true, beq_iff_eq]
  exact ⟨fun ⟨named, h, hc, hn⟩ => ⟨h, hc, named, hn⟩, fun ⟨h, hc, named, hn⟩ => ⟨named, h, hc, hn⟩⟩

/-- R85: a candidate that the filter takes out is BLIND or under the cross name. -/
abbrev FilteredOut (s : State) (e : HistoryEntry) : Prop :=
  UnderCross s e ∨ (attributesOf s e.name).sensitivity = .blind

theorem mem_filterCandidates {s : State} {c : List HistoryEntry} {e : HistoryEntry} :
    e ∈ filterCandidates s c ↔ e ∈ c ∧ ¬FilteredOut s e := by
  simp [filterCandidates, FilteredOut, UnderCross, imp_iff_not_or]

theorem filterCandidates_append (s : State) (c d : List HistoryEntry) :
    filterCandidates s (c ++ d) = filterCandidates s c ++ filterCandidates s d := List.filter_append ..

theorem filterCandidates_singleton {s : State} {e : HistoryEntry} (h : ¬FilteredOut s e) :
    filterCandidates s [e] = [e] :=
  List.filter_eq_self.2 fun x hx => (List.mem_filter.1 (mem_filterCandidates.2 ⟨hx, by
    rw [List.mem_singleton.1 hx]
    exact h⟩)).2

/-- The first of a list is the first of its groups, where its value is the highest. -/
theorem groupsBy_cons_of_highest {α : Type} (f : α → Nat) {x : α} {l : List α} (hl : ∀ y ∈ l, f y ≤ f x)
    {ps : List Nat} (hps : ps.Pairwise (· > ·)) (hx : f x ∈ ps) : ∃ rest, groupsBy f (x :: l) ps = x :: rest := by
  induction ps with
  | nil => exact absurd hx List.not_mem_nil
  | cons p ps ih =>
    rw [groupsBy_cons]
    obtain ⟨hp, hps⟩ := List.pairwise_cons.1 hps
    rcases List.mem_cons.1 hx with rfl | hx
    · rw [List.filter_cons_of_pos (by simp), List.cons_append]
      exact ⟨_, rfl⟩
    · have lower := hp _ hx
      have none_here : (x :: l).filter (fun y => f y == p) = [] := by
        refine List.filter_eq_nil_iff.2 fun y hy => ?_
        have : f y ≤ f x := (List.mem_cons.1 hy).elim (fun h => h ▸ le_rfl) (hl y)
        simp only [beq_iff_eq]
        omega
      rw [none_here, List.nil_append]
      exact ih hps hx

/-- R86: the newest candidate is ranked first where none stands before it in priority. -/
theorem rankCandidates_of_newest {s : State} {c : List HistoryEntry} {e : HistoryEntry}
    (legal : (attributesOf s e.name).priority ≤ 7)
    (highest : ∀ h ∈ c, (attributesOf s h.name).priority ≤ (attributesOf s e.name).priority) :
    ∃ rest, rankCandidates s (c ++ [e]) = e :: rest := by
  rw [rankCandidates_eq, List.reverse_concat]
  exact groupsBy_cons_of_highest _ (fun h hh => highest h (List.mem_reverse.1 hh)) (by decide) (mem_priorities.2 legal)

/-- What a strike hands over (R79, R83, R84, R85, R92). -/
theorem attributeStrike_handed (x y : Coord) {s : State} (taken : ResultsTaken s) {c : List HistoryEntry}
    (hc : candidates s.follower.history s.time s.pen.active.tLW = c) :
    (attributeStrike x y s).handed =
      if s.tracker.runs && underCross s.tracker.active.crossName c then
        { gate := [], tracker := [.result s.time x y] }
      else
        { gate := (firstWinner s x y (rankCandidates s (filterCandidates s c))).toList
          tracker := if underCross s.tracker.active.crossName c then [.sighting s.time] else [] } := by
  unfold attributeStrike
  dsimp only
  rw [hc]
  cases underCross s.tracker.active.crossName c <;> cases s.tracker.runs <;>
    cases firstWinner s x y (rankCandidates s (filterCandidates s c)) <;>
    simp [handGate, handTracker, taken, HandOffs.none]

/-! ### The strike -/

/-- The state in which an accepted edge's strike is attributed: the edge taken, the strike counted and recorded (R69 to
R71). -/
def strikeTaken (x y : Coord) (s : State) : State :=
  (edgeTaken x y s).setPen ((edgeTaken x y s).pen.struck s.time)

/-- The candidates of a strike before whose newest history entry others stand (R81). -/
def strikeWindow (older : List HistoryEntry) (e : HistoryEntry) (s : State) : List HistoryEntry :=
  older.filter (fun h => elapsed s.time h.fetchTime ≤ s.pen.active.tLW) ++ [e]

section
variable (x y : Coord) {older : List HistoryEntry} {e : HistoryEntry} {s : State}

theorem exec_photoEdge_of_strike (ready : StrikeReady s) (settled : Settled s) :
    exec (.photoEdge x y) s = .next (meetResults (attributeStrike x y (strikeTaken x y s))) := by
  obtain ⟨any, copies, following, running, level, low, fresh, room⟩ := ready
  have accepted : pulseAccepted (edgeTaken x y s) = true := by
    rw [pulseAccepted_iff, inhibited_eq_false_iff, deadTimeAllows_iff]
    simp [edgeTaken, copies, following, running, level, low, fresh, room]
  rw [exec_photoEdge_of_pulse x y settled (by rw [any]; rfl), pulse_of_copiesSound (s := edgeTaken x y s) copies,
    judgePulse, if_pos accepted]
  rfl

/-- A candidate of the strike under the cross name: in the window, or the newest (R81, R83, R84). -/
theorem underCross_window_iff : underCross s.tracker.active.crossName (strikeWindow older e s) = true ↔
    ∃ h ∈ older ++ [e], (h = e ∨ (s.time - h.fetchTime).toNat ≤ s.pen.active.tLW) ∧ UnderCross s h := by
  rw [underCross_iff]
  refine exists_congr fun h => ?_
  rw [← and_assoc (a := h ∈ older ++ [e])]
  refine and_congr_left fun _ => ?_
  have window : h ∈ strikeWindow older e s ↔
      (h ∈ older ∧ (s.time - h.fetchTime).toNat ≤ s.pen.active.tLW) ∨ h = e :=
    List.mem_append.trans (or_congr (List.mem_filter.trans (and_congr_right fun _ => decide_eq_true_iff))
      List.mem_singleton)
  rw [window, List.mem_append, List.mem_singleton]
  tauto

/-- What an accepted edge hands over, its strike attributed in the state it leaves. -/
theorem strike_handed (history : s.follower.history = older ++ [e]) (taken : ResultsTaken s) :
    (attributeStrike x y (strikeTaken x y s)).handed =
      if s.tracker.runs && underCross s.tracker.active.crossName (strikeWindow older e s) then
        { gate := [], tracker := [.result s.time x y] }
      else
        { gate := (firstWinner (strikeTaken x y s) x y
            (rankCandidates s (filterCandidates s (strikeWindow older e s)))).toList
          tracker :=
            if underCross s.tracker.active.crossName (strikeWindow older e s) then [.sighting s.time] else [] } :=
  attributeStrike_handed (s := strikeTaken x y s) x y taken
    ((congrArg (candidates · _ _) history).trans (candidates_append ..))

/-- Taking the edge and counting the strike do not touch what the winner is found by (R90). -/
theorem firstWinner_strikeTaken (l : List HistoryEntry) :
    firstWinner (strikeTaken x y s) x y l = firstWinner s x y l := by
  induction l with
  | nil => rfl
  | cons e l ih =>
    rw [firstWinner, firstWinner, ih]
    rfl

/-- R84: in OFF, and with no candidate under the cross name, the first that resolves is handed to the Gate Unit. -/
theorem strike_handed_gate (history : s.follower.history = older ++ [e]) (taken : ResultsTaken s)
    (quiet : underCross s.tracker.active.crossName (strikeWindow older e s) = false ∨ s.tracker.state = .off) :
    (attributeStrike x y (strikeTaken x y s)).handed.gate =
      (firstWinner s x y (rankCandidates s (filterCandidates s (strikeWindow older e s)))).toList := by
  have no_cross : (s.tracker.runs && underCross s.tracker.active.crossName (strikeWindow older e s)) = false := by
    rcases quiet with h | h <;> simp [Tracker.runs, h]
  rw [strike_handed x y history taken, no_cross, if_neg Bool.false_ne_true, firstWinner_strikeTaken]

/-- With no candidate under the cross name, the Tracking Unit is handed nothing. -/
theorem strike_handed_tracker_of_none (history : s.follower.history = older ++ [e]) (taken : ResultsTaken s)
    (unseen : underCross s.tracker.active.crossName (strikeWindow older e s) = false) :
    (attributeStrike x y (strikeTaken x y s)).handed.tracker = [] := by
  rw [strike_handed x y history taken, unseen, Bool.and_false, if_neg Bool.false_ne_true]
  rfl

/-- R84: in OFF a candidate under the cross name is a sighting. -/
theorem strike_handed_tracker_of_off (history : s.follower.history = older ++ [e]) (taken : ResultsTaken s)
    (seen : underCross s.tracker.active.crossName (strikeWindow older e s) = true) (off : s.tracker.state = .off) :
    (attributeStrike x y (strikeTaken x y s)).handed.tracker = [.sighting s.time] := by
  have stands : s.tracker.runs = false := by simp [Tracker.runs, off]
  rw [strike_handed x y history taken, seen, stands, Bool.false_and, if_neg Bool.false_ne_true]
  rfl

/-- R83: in a run a candidate under the cross name is a cross strike, and nothing else. -/
theorem strike_handed_of_run (history : s.follower.history = older ++ [e]) (taken : ResultsTaken s)
    (seen : underCross s.tracker.active.crossName (strikeWindow older e s) = true) (runs : s.tracker.state ≠ .off) :
    (attributeStrike x y (strikeTaken x y s)).handed = { gate := [], tracker := [.result s.time x y] } := by
  have runs : s.tracker.runs = true := by simpa [Tracker.runs] using runs
  rw [strike_handed x y history taken, seen, runs, Bool.and_true, if_pos rfl]

/-- Neither receiver is touched by the attribution. -/
theorem gateReceiver_strike :
    gateReceiver.part (attributeStrike x y (strikeTaken x y s)) = gateReceiver.part s := by
  simp [gateReceiver, strikeTaken, edgeTaken]

theorem trackReceiver_strike :
    trackReceiver.part (attributeStrike x y (strikeTaken x y s)) = trackReceiver.part s := by
  simp [trackReceiver, strikeTaken, edgeTaken]

/-- Where nothing passes the filter the strike has no winner (R85, R90). -/
theorem ranked_of_filtered (newest : FilteredOut s e)
    (others : ∀ h ∈ older, (s.time - h.fetchTime).toNat ≤ s.pen.active.tLW → FilteredOut s h) :
    rankCandidates s (filterCandidates s (strikeWindow older e s)) = [] := by
  have none_left : filterCandidates s (strikeWindow older e s) = [] := by
    refine List.eq_nil_iff_forall_not_mem.2 fun h hh => ?_
    obtain ⟨mem, passes⟩ := mem_filterCandidates.1 hh
    rcases List.mem_append.1 mem with mem | mem
    · obtain ⟨mem, seen⟩ := List.mem_filter.1 mem
      exact passes (others h mem (of_decide_eq_true seen))
    · exact passes (List.mem_singleton.1 mem ▸ newest)
  rw [none_left]
  rfl

/-- Where the newest entry passes the filter and none in the window that passes has a higher priority, it is ranked
first (R86). -/
theorem ranked_of_newest (newest : ¬FilteredOut s e) (legal : (attributesOf s e.name).priority ≤ 7)
    (others : ∀ h ∈ older, (s.time - h.fetchTime).toNat ≤ s.pen.active.tLW →
      FilteredOut s h ∨ (attributesOf s h.name).priority ≤ (attributesOf s e.name).priority) :
    ∃ rest, rankCandidates s (filterCandidates s (strikeWindow older e s)) = e :: rest := by
  rw [strikeWindow, filterCandidates_append, filterCandidates_singleton newest]
  refine rankCandidates_of_newest legal fun h hh => ?_
  obtain ⟨mem, passes⟩ := mem_filterCandidates.1 hh
  obtain ⟨mem, seen⟩ := List.mem_filter.1 mem
  exact (others h mem (of_decide_eq_true seen)).resolve_left passes

end

/-! ### What a result does, in the terms of the statement -/

section
variable {w : Winner} {s : State}

theorem voted_eq_votedGate (struck : w.time = s.time) (g : OpenGate) (snap : Snapshot) :
    s.gate.voted g w snap = votedGate g w.key w.priority snap s := by
  unfold GateUnit.voted votedGate TallyEntry.vote
  rw [struck]

theorem gateWinner_gate_of_open (struck : w.time = s.time) {g : OpenGate} (hopen : s.gate.gate = some g)
    (late : (s.time - g.openTime).toNat < 8388608) : (gateWinner w s).gate =
      { votedGate g w.key w.priority (snapshotOf w s) s with hover := s.gate.hoverAfter w } := by
  have late : earlier w.time g.openTime = false := by
    rw [struck]
    exact decide_eq_false (Nat.not_le.2 late)
  rw [gateWinner_gate, GateUnit.counted_of_open hopen late, voted_eq_votedGate struck]

theorem gateWinner_gate_of_closed (closed : s.gate.gate = none) : (gateWinner w s).gate = { s.gate with
    dwell := if isDwellWinner w s then s.gate.dwell.taken w (snapshotOf w s) else s.gate.dwell
    hover := s.gate.hoverAfter w } := by
  rw [gateWinner_gate, GateUnit.counted_of_closed closed]
  split_ifs <;> rfl

/-- A result without an item feeds neither the Dwell Record nor the Hover Record (R113, R116). -/
theorem isDwellWinner_of_plain (plain : w.key.item = none) : isDwellWinner w s = false := by
  simp [isDwellWinner, plain]

theorem votedGate_hover (g : OpenGate) (k : Key) (p : Nat) (snap : Snapshot) :
    { votedGate g k p snap s with hover := s.gate.hover } = votedGate g k p snap s := by
  unfold votedGate
  split_ifs <;> rfl

/-- R104, R116: a result of a strike before the gate opened feeds at most the Hover Record. -/
theorem gateWinner_of_early {g : OpenGate} (hopen : s.gate.gate = some g) (early : earlier w.time g.openTime = true) :
    gateWinner w s = s.setGate { s.gate with hover := s.gate.hoverAfter w } := by
  rw [gateWinner_eq, GateUnit.counted_of_early hopen early]

/-- R113: at a CLOSED gate a result that is no DWELL-item winner feeds at most the Hover Record. -/
theorem gateWinner_of_no_dwell (closed : s.gate.gate = none) (no_dwell : isDwellWinner w s = false) :
    gateWinner w s = s.setGate { s.gate with hover := s.gate.hoverAfter w } := by
  rw [gateWinner_eq, GateUnit.counted_of_closed closed, no_dwell]
  rfl

theorem isDwellWinner_eq_false (h : w.key.item = none ∨ w.isMenu = false ∨
    ∀ c, (attributesOf s w.key.name).classPart ≠ .menu c .dwell) : isDwellWinner w s = false := by
  rcases h with plain | other | tip
  · exact isDwellWinner_of_plain plain
  · simp [isDwellWinner, other]
  · have tips : (attributesOf s w.key.name).classPart.dwells = false := by
      unfold ClassPart.dwells
      split
      · exact absurd ‹_› (tip _)
      · rfl
    simp [isDwellWinner, tips]

end

/-! ### The winner of a strike, taken -/

theorem ClassPart.isMenu_eq (c : ClassPart) : c.isMenu = match c with | .menu _ _ => true | _ => false := by
  cases c <;> rfl

theorem ClassPart.dwells_eq_true_imp_isMenu {c : ClassPart} (h : c.dwells = true) : c.isMenu = true := by
  cases c with
  | menu separator trigger => rfl
  | draw => exact h
  | readout part => exact absurd h Bool.false_ne_true

section
variable (x y : Coord) (e : HistoryEntry) (s : State)

/-- R113: the winner with an item is a DWELL-item winner by its trigger alone. -/
theorem isDwellWinner_winnerOf (k : Nat) (i : Item) :
    isDwellWinner (winnerOf s x y e (some (k, i))) s = (attributesOf s e.name).classPart.dwells := by
  refine Bool.eq_iff_iff.2 ⟨fun h => (Bool.and_eq_true_iff.1 h).2, fun h => ?_⟩
  exact Bool.and_eq_true_iff.2 ⟨ClassPart.dwells_eq_true_imp_isMenu h, h⟩

end

/-- Settles O35: the attribution hands over one result to each receiver at most, and each receiver's taking of it is
said by the result alone. -/
theorem strikeVotesForTheNewestStroke : Obligations.StrikeVotesForTheNewestStroke := by
  refine ⟨fun x y older e s ready settled history => ?_, fun w s => ?_⟩
  · intro seen priority part isMenu sighted wins winner
    have taken : ResultsTaken s := settled.2
    have hsighted : underCross s.tracker.active.crossName (strikeWindow older e s) = true ↔ sighted :=
      underCross_window_iff
    have unseen (h : ¬sighted) : underCross s.tracker.active.crossName (strikeWindow older e s) = false :=
      Bool.eq_false_iff.2 (mt hsighted.1 h)
    have at_gate := gateReceiver_strike x y (s := s)
    have at_tracker := trackReceiver_strike x y (s := s)
    refine ⟨_, exec_photoEdge_of_strike x y ready settled, ?_⟩
    intro u
    have quiet (h : ¬sighted ∨ s.tracker.state = .off) :=
      strike_handed_gate x y history taken (h.imp_left unseen)
    have none_sighted (h : ¬sighted) :=
      tracker_of_none_handed (strike_handed_tracker_of_none x y history taken (unseen h)) at_tracker
    have one_sighted (h : sighted) (off : s.tracker.state = .off) :=
      tracker_of_sighting (strike_handed_tracker_of_off x y history taken (hsighted.2 h) off) at_tracker off
    refine ⟨?_, ?_, ?_, ?_, settleResults_taken _, fun h => ?_, fun h off => ?_, fun h run => ?_, fun h => ?_,
      fun ⟨apart, notBlind, legal, others⟩ h => ?_⟩
    · simp [strikeTaken, Pen.struck, edgeTaken]
    · simp [strikeTaken, Pen.struck, edgeTaken]
    · simp [strikeTaken, edgeTaken]
    · simp [strikeTaken, edgeTaken]
    · obtain ⟨empty, kept, _⟩ := none_sighted h
      exact ⟨empty, kept⟩
    · obtain ⟨pending, settled, _⟩ := one_sighted h off
      refine ⟨pending, settled, fun newest others => ?_⟩
      have none_left := quiet (.inr off)
      rw [ranked_of_filtered (.inl newest) others] at none_left
      exact gate_of_none_handed none_left at_gate
    · have handed := strike_handed_of_run x y history taken (hsighted.2 h) run
      obtain ⟨pending, tracker, reports⟩ := tracker_of_cross (congrArg (·.tracker) handed) at_tracker
      exact ⟨pending, tracker, reports, gate_of_none_handed (congrArg (·.gate) handed) at_gate⟩
    · by_cases hs : sighted
      · exact (one_sighted hs (h.resolve_left (not_not_intro hs))).2.2
      · exact (none_sighted hs).2.2
    · have newest : ¬FilteredOut s e := not_or_intro apart notBlind
      obtain ⟨rest, ranked⟩ := ranked_of_newest newest legal fun h mem near => or_assoc.2 (others h mem near)
      have handed := quiet h
      rw [ranked] at handed
      have menu : (attributesOf s e.name).classPart.isMenu = isMenu := ClassPart.isMenu_eq _
      refine ⟨fun plain => ?_, fun text k i ht hi => ?_⟩
      · rw [firstWinner_of_plain plain] at handed
        obtain ⟨pending, gate⟩ := gate_of_winner handed at_gate
        have same : winnerOf s x y e none = winner none := by
          simp only [winnerOf, menu]
          rfl
        refine ⟨same ▸ pending, fun g hopen late => gate.trans ?_, fun closed => gate.trans ?_⟩
        · rw [gateWinner_gate_of_open rfl hopen late, GateUnit.hoverAfter_of_plain rfl, votedGate_hover]
          rfl
        · rw [gateWinner_gate_of_closed closed, GateUnit.hoverAfter_of_plain rfl, isDwellWinner_of_plain rfl]
          rfl
      · intro key desc latest dwells hover d
        rw [firstWinner_of_yielded ht hi] at handed
        obtain ⟨pending, gate⟩ := gate_of_winner handed at_gate
        have same : winnerOf s x y e (some (k, i)) = winner (some (k, desc)) := by
          simp only [winnerOf, menu]
          rfl
        have hhover : s.gate.hoverAfter (winnerOf s x y e (some (k, i))) = hover := by
          rw [same]
          rfl
        refine ⟨same ▸ pending, fun g hopen late => gate.trans ?_, fun closed => gate.trans ?_⟩
        · rw [gateWinner_gate_of_open rfl hopen late, hhover]
          rfl
        · rw [gateWinner_gate_of_closed closed, hhover, isDwellWinner_winnerOf]
          have dwell : s.gate.dwell.taken (winnerOf s x y e (some (k, i))) latest = { d with
              candidate := some (key, latest), won := d.won || d.key == some key
              snapshot := if d.key = some key then some latest else d.snapshot } := by
            rw [beq_eq_decide]
            rfl
          exact congrArg (fun r => { s.gate with hover := hover, dwell := if dwells then r else d }) dwell
  · intro t hover
    refine ⟨fun g hopen early => gateWinner_of_early hopen (decide_eq_true early), fun closed => ?_⟩
    have gate := gateWinner_gate_of_closed (w := w) closed
    exact ⟨(congrArg (·.gate) gate).trans closed, congrArg (·.tally) gate, congrArg (·.hover) gate,
      fun none_dwells => gateWinner_of_no_dwell closed (isDwellWinner_eq_false none_dwells)⟩

end Sys2Proof.Machine
end

section
/-! # The decision of a closing gate (R109)

The order of a decision is strict and its negation transitive, so that the fold of `firstRanked` finds an entry before
which none stands (`foldl_keepFirst`). -/

namespace Sys2Proof.Machine

/-- R109: an entry does not stand before another when it has fewer votes, or as many and a lower top priority, or both
alike and no later last vote. -/
theorem outranks_eq_false_iff (openTime : Time) (a b : TallyEntry) :
    outranks openTime a b = false ↔
      a.votes < b.votes ∨ (a.votes = b.votes ∧ (a.topPriority < b.topPriority ∨
        (a.topPriority = b.topPriority ∧ elapsed a.lastVote openTime ≤ elapsed b.lastVote openTime))) := by
  simp only [outranks, Bool.or_eq_false_iff, Bool.and_eq_false_iff, decide_eq_false_iff_not, beq_eq_false_iff_ne]
  omega

theorem outranks_asymm (openTime : Time) (a b : TallyEntry) (h : outranks openTime a b = true) :
    outranks openTime b a = false := by
  rw [← Bool.not_eq_false, outranks_eq_false_iff] at h
  rw [outranks_eq_false_iff]
  omega

theorem outranks_negTrans (openTime : Time) (a b c : TallyEntry) (hab : outranks openTime a b = false)
    (hbc : outranks openTime b c = false) : outranks openTime a c = false := by
  rw [outranks_eq_false_iff] at *
  omega

theorem firstRanked_eq_foldl (openTime : Time) (l : List TallyEntry) :
    firstRanked openTime l = l.foldl (keepFirst (outranks openTime)) none :=
  congrArg (fun f => l.foldl f none) (funext₂ fun best _ => by cases best <;> rfl)

/-- A list with an entry has a first one, before which no entry stands. -/
theorem firstRanked_of_ne_nil (openTime : Time) {l : List TallyEntry} (h : l ≠ []) :
    ∃ w ∈ l, firstRanked openTime l = some w ∧ ∀ e ∈ l, outranks openTime e w = false := by
  obtain ⟨b, l, rfl⟩ := List.exists_cons_of_ne_nil h
  rw [firstRanked_eq_foldl]
  exact foldl_keepFirst (outranks_asymm openTime) (outranks_negTrans openTime) l b

theorem firstRanked_eq_none_iff (openTime : Time) (l : List TallyEntry) : firstRanked openTime l = none ↔ l = [] := by
  refine ⟨fun hnone => ?_, fun h => h ▸ rfl⟩
  by_contra h
  obtain ⟨w, _, hsome, _⟩ := firstRanked_of_ne_nil openTime h
  exact Option.some_ne_none w (hsome.symm.trans hnone)

theorem firstRanked_eq_some {openTime : Time} {l : List TallyEntry} {w : TallyEntry}
    (h : firstRanked openTime l = some w) : w ∈ l ∧ ∀ e ∈ l, outranks openTime e w = false := by
  have ne : l ≠ [] := fun hnil => Option.some_ne_none w (h.symm.trans ((firstRanked_eq_none_iff openTime l).2 hnil))
  obtain ⟨v, hv, hsome, hfirst⟩ := firstRanked_of_ne_nil openTime ne
  obtain rfl : v = w := Option.some.inj (hsome.symm.trans h)
  exact ⟨hv, hfirst⟩

/-- Settles O47: the winner is the first of the Tally, and the runner-up the first of the entries of other keys. -/
theorem decisionTakesTheMostVotes : Obligations.DecisionTakesTheMostVotes := by
  intro openTime l notBehind
  have behind (w e : TallyEntry) (h : outranks openTime e w = false) : notBehind w e :=
    (outranks_eq_false_iff openTime e w).1 h
  refine ⟨(firstRanked_eq_none_iff openTime l).symm, fun w hw => ?_⟩
  obtain ⟨mem, first⟩ := firstRanked_eq_some hw
  refine ⟨mem, fun e he => behind w e (first e he), ?_, fun r hr => ?_⟩
  · rw [tallyRunner, firstRanked_eq_none_iff]
    simp
  · obtain ⟨hmem, hfirst⟩ := firstRanked_eq_some hr
    obtain ⟨hr, hkey⟩ := List.mem_filter.1 hmem
    exact ⟨hr, bne_iff_ne.1 hkey,
      fun e he hne => behind r e (hfirst e (List.mem_filter.2 ⟨he, bne_iff_ne.2 hne⟩)), by simp [isAmbiguous]⟩

end Sys2Proof.Machine
end

section
/-! # The Gate Unit stays sound (R101 to R118)

The unit by the operations that change it; every other operation leaves it as it is, so that the induction over a step
(`Kept`) carries its soundness through. -/

namespace Sys2Proof.Machine

/-! ### The gate's frame count (R108) -/

theorem raiseGateCount_of_closed {s : State} (h : s.gate.gate = none) : raiseGateCount s = s := by
  simp only [raiseGateCount, h]

theorem raiseGateCount_of_open {s : State} {g : OpenGate} (h : s.gate.gate = some g) :
    raiseGateCount s = s.setGate { s.gate with
      gate := some { g with frameCount := g.frameCount + 1, comparedLength := s.gate.active.length } } := by
  simp only [raiseGateCount, h]

theorem closeByLength_of_closed {s : State} (h : s.gate.gate = none) : closeByLength s = s := by
  simp only [closeByLength, h]

section
variable {s : State} {g : OpenGate} (h : s.gate.gate = some g)
include h

theorem closeByLength_of_reached (reached : g.comparedLength ≤ g.frameCount) :
    closeByLength s = closeDeciding false s := by
  simp only [closeByLength, h]
  exact if_pos reached

theorem closeByLength_of_below (below : g.frameCount < g.comparedLength) : closeByLength s = s := by
  simp only [closeByLength, h]
  exact if_neg (Nat.not_le.2 below)

end

/-! ### The dwell (R114, R115) -/

section
variable {d : DwellRecord} {limit : Nat}

theorem DwellRecord.roll_of_won (won : d.won = true) : d.roll limit = { d with
    count := if d.spent then d.count else d.count + 1, won := false, candidate := none, comparedDwell := limit } :=
  if_pos won

theorem DwellRecord.roll_of_candidate {key : Key} {snap : Snapshot} (lost : d.won = false)
    (candidate : d.candidate = some (key, snap)) : d.roll limit =
    { key := some key, count := 1, spent := false, won := false, snapshot := some snap, candidate := none,
      comparedDwell := limit } := by
  simp [DwellRecord.roll, lost, candidate]

theorem DwellRecord.roll_of_left (lost : d.won = false) (left : d.candidate = none) : d.roll limit = .empty := by
  simp [DwellRecord.roll, lost, left]

end

/-- A Dwell Record that is sound at a CLOSED gate, but that an unspent key may have reached its limit: as a frame end
leaves it before its dwell report (R114, R115). -/
structure DwellRecord.Reportable (d : DwellRecord) : Prop where
  keyless : d.key = none → d.count = 0 ∧ d.spent = false ∧ d.won = false ∧ d.snapshot = none
  keyed : d.key ≠ none → d.snapshot ≠ none ∧ d.count ≤ 15 ∧ (d.spent = false → d.comparedDwell ≤ 15)

/-- The report of a dwell that has reached its limit (R115). -/
def dwellPick (key : Key) (snap : Snapshot) (s : State) : Report :=
  { pickReport key snap s with
    flags := { (pickReport key snap s).flags with dwell := true }
    winnerVotes := s.gate.dwell.count }

/-- The dwell at a CLOSED gate has reached the limit it was compared with, for an unspent key (R115). -/
structure DwellDue (key : Key) (snap : Snapshot) (u : GateUnit) : Prop where
  closed : u.gate = none
  key : u.dwell.key = some key
  snapshot : u.dwell.snapshot = some snap
  unspent : u.dwell.spent = false
  reached : u.dwell.comparedDwell ≤ u.dwell.count

/-- A dwell report at the three blocks it changes: the key spent, the pick echoed, the dwell reported. -/
theorem dwellReport_of_due {s : State} {key : Key} {snap : Snapshot} (due : DwellDue key snap s.gate) :
    (dwellReport s).gate = { s.gate with
      dwell := { s.gate.dwell with spent := true }, lastPick := some (pickedLast snap) } ∧
    (dwellReport s).echo = s.echo.afterPick key snap ∧
    (dwellReport s).reports = reportsAsked [dwellPick key snap s] s := by
  have reported : dwellReport s = afterPick key snap ((requestReport (dwellPick key snap s) s).setGate
      { (requestReport (dwellPick key snap s) s).gate with dwell := { s.gate.dwell with spent := true } }) := by
    simp only [dwellReport, due.closed, due.key, due.snapshot]
    exact if_pos ⟨by simp [due.unspent], due.reached⟩
  simp [reported, reportsAsked]

theorem dwellReport_of_not_due {s : State} (h : ∀ key snap, ¬DwellDue key snap s.gate) : dwellReport s = s := by
  unfold dwellReport
  split
  case h_1 key snap closed hkey hsnap =>
    refine if_neg fun ⟨unspent, reached⟩ => h key snap ⟨closed, hkey, hsnap, by simpa using unspent, reached⟩
  case h_2 => rfl

theorem dwellFrameEnd_of_closed {s : State} (h : s.gate.gate = none) : dwellFrameEnd s =
    dwellReport (s.setGate { s.gate with dwell := s.gate.dwell.roll s.gate.active.dwell }) := by
  simp only [dwellFrameEnd, h]

/-! ### A sound Gate Unit -/

theorem gateSettingsSound_powerUp : GateSettingsSound GateSettings.powerUp := by
  constructor <;> decide

/-- R32, R101: the argument of a GATE is clamped. -/
theorem GateSettingsSound.gateCandidate {g : GateSettings} (h : GateSettingsSound g) (ws : List Word) :
    GateSettingsSound (gateCandidate ws g) :=
  withArgument_keeps
    (fun _ _ _ => ⟨⟨le_clampNat, clampNat_le (by decide)⟩, ⟨le_clampNat, clampNat_le (by decide)⟩⟩) h

@[simp] theorem GateUnit.counted_active (w : Winner) (snap : Snapshot) (dwells : Bool) (u : GateUnit) :
    (u.counted w snap dwells).active = u.active := by
  unfold GateUnit.counted
  split <;> split_ifs
  · rfl
  · exact (GateUnit.voted_aside ..).1
  · rfl
  · rfl

theorem gateSound_reset {g : GateSettings} (h : GateSettingsSound g) : GateSound (GateUnit.reset g) := by
  constructor <;> simp [GateUnit.reset, DwellRecord.empty, h]

section
variable {u : GateUnit} (h : GateSound u)
include h

theorem GateSound.withShadow {x : Option GateSettings} (hx : ∀ c, x = some c → GateSettingsSound c) :
    GateSound { u with shadow := x } := { h with shadow := hx }

theorem GateSound.withHover {x : Option HoverRecord} (hx : u.active.hover = false → x = none) :
    GateSound { u with hover := x } := { h with hover := hx }

/-- R107: a CLOSED gate has an empty Tally. -/
theorem GateSound.withClosed (p : Option LastPick) :
    GateSound { u with gate := none, tally := [], lastPick := p } :=
  { h with
    closed := fun _ => rfl, tallyLength := Nat.zero_le 8, tallyKeys := List.nodup_nil, votes := nofun
    frameCount := nofun, opened := fun hopen => absurd rfl hopen }

/-- R108: an OPEN gate stays below the length it is compared with. -/
theorem GateSound.withOpen {g g' : OpenGate} (hopen : u.gate = some g)
    (hg : g'.frameCount < g'.comparedLength ∧ g'.comparedLength ≤ 15) : GateSound { u with gate := some g' } :=
  { h with
    closed := nofun
    frameCount := fun _ hsome => Option.some.inj hsome ▸ hg
    opened := fun _ => h.opened (hopen ▸ Option.some_ne_none g) }

/-- At a CLOSED gate any Dwell Record that is sound by itself may stand. -/
theorem GateSound.withDwell {d : DwellRecord} (closed : u.gate = none)
    (keyless : d.key = none → d.count = 0 ∧ d.spent = false ∧ d.won = false ∧ d.snapshot = none)
    (keyed : d.key ≠ none → d.snapshot ≠ none ∧ d.count ≤ 15 ∧
      (d.spent = false → d.count < d.comparedDwell ∧ d.comparedDwell ≤ 15)) :
    GateSound { u with dwell := d } :=
  { h with opened := fun hopen => absurd closed hopen, keyless := keyless, keyed := keyed }

/-- R104: a change of each Tally entry that keeps its key and loses no vote. -/
theorem GateSound.withVotes {f : TallyEntry → TallyEntry} (key : ∀ e, (f e).key = e.key)
    (votes : ∀ e, e.votes ≤ (f e).votes) : GateSound { u with tally := u.tally.map f } :=
  { h with
    closed := fun hclosed => by simpa using h.closed hclosed
    tallyLength := by simpa using h.tallyLength
    tallyKeys := by simpa [Function.comp_def, key] using h.tallyKeys
    votes := List.forall_mem_map.2 fun e he => (h.votes e he).trans (votes e) }

/-- R104, R105: a key that the Tally does not hold joins it only while it has room. -/
theorem GateSound.withEntry {g : OpenGate} {e : TallyEntry} (hopen : u.gate = some g)
    (new : ∀ x ∈ u.tally, x.key ≠ e.key) (room : u.tally.length < 8) (voted : 1 ≤ e.votes) :
    GateSound { u with tally := u.tally ++ [e] } :=
  { h with
    closed := fun hclosed => absurd (hclosed.symm.trans hopen) (Option.some_ne_none g).symm
    tallyLength := by simpa using room
    tallyKeys := by
      rw [List.map_append, List.map_singleton]
      exact List.nodup_append.2 ⟨h.tallyKeys, by simp, by simpa using new⟩
    votes := by
      simp only [List.mem_append, List.mem_singleton]
      rintro x (hx | rfl)
      · exact h.votes x hx
      · exact voted }

/-! ### A winner result (R104, R105, R113, R116) -/

theorem GateSound.voted {g : OpenGate} (hopen : u.gate = some g) (w : Winner) (snap : Snapshot) :
    GateSound (u.voted g w snap) := by
  unfold GateUnit.voted
  split_ifs with held room
  · refine h.withVotes (fun e => ?_) (fun e => ?_) <;> split_ifs
    · rfl
    · rfl
    · exact Nat.le_succ _
    · exact le_rfl
  · exact h.withEntry hopen (by simpa using held) room le_rfl
  · exact h.withOpen hopen (h.frameCount g hopen)

theorem GateSound.counted (w : Winner) (snap : Snapshot) (dwells : Bool) : GateSound (u.counted w snap dwells) := by
  unfold GateUnit.counted
  split
  · split_ifs
    · exact h
    · exact h.voted ‹_› w snap
  · split_ifs
    · refine h.withDwell ‹_› (fun hkey => ?_) (fun hkey => ?_)
      · obtain ⟨hcount, hspent, hwon, hsnap⟩ := h.keyless hkey
        have hkey : u.dwell.key = none := hkey
        simp [DwellRecord.taken, hcount, hspent, hwon, hsnap, hkey]
      · obtain ⟨hsnap, hcount, hunspent⟩ := h.keyed hkey
        refine ⟨?_, hcount, hunspent⟩
        simp only [DwellRecord.taken]
        split_ifs
        · exact Option.some_ne_none snap
        · exact hsnap
    · exact h

/-- R116: hover OFF takes no Hover Record. -/
theorem GateSound.hoverAfter_of_off (w : Winner) (off : u.active.hover = false) : u.hoverAfter w = none := by
  unfold GateUnit.hoverAfter
  split
  · simpa [off] using h.hover off
  · exact h.hover off

theorem gateSound_closed : GateSound u.closed := by
  rcases Option.eq_none_or_eq_some u.gate with hg | ⟨g, hg⟩
  · rwa [GateUnit.closed_of_closed hg]
  · rw [GateUnit.closed_of_open hg]
    exact h.withClosed _

/-- R106, R114: a mark leaves keys and votes as they are. -/
theorem GateSound.invalidatedBy (hit : ItemDesc → Bool) : GateSound (u.invalidatedBy hit) := by
  have marked := h.withVotes (f := fun e => { e with latest := e.latest.staleWhere hit }) (fun _ => rfl)
    (fun _ => le_rfl)
  refine { marked with opened := fun hopen => ?_, keyless := fun hkey => ?_, keyed := fun hkey => ?_,
                       hover := fun off => ?_ }
  · obtain ⟨hkey, hcandidate⟩ := h.opened hopen
    exact ⟨hkey, by simp [GateUnit.invalidatedBy, hcandidate]⟩
  · obtain ⟨hcount, hspent, hwon, hsnap⟩ := h.keyless hkey
    exact ⟨hcount, hspent, hwon, by simp [GateUnit.invalidatedBy, hsnap]⟩
  · obtain ⟨hsnap, hcount, hunspent⟩ := h.keyed hkey
    exact ⟨by simpa [GateUnit.invalidatedBy] using hsnap, hcount, hunspent⟩
  · have hnone : u.hover = none := h.hover off
    simp [GateUnit.invalidatedBy, hnone]

theorem GateSound.reportable : u.dwell.Reportable where
  keyless := h.keyless
  keyed := fun hkey =>
    have ⟨hsnap, hcount, hunspent⟩ := h.keyed hkey
    ⟨hsnap, hcount, fun unspent => (hunspent unspent).2⟩

/-- R114: an unspent key that has won again is below its limit, so that its count has room for one more. -/
theorem GateSound.roll_reportable {limit : Nat} (bound : limit ≤ 15) : (u.dwell.roll limit).Reportable := by
  cases hwon : u.dwell.won with
  | true =>
    have hkey : u.dwell.key ≠ none := fun hnone => by
      obtain ⟨_, _, lost, _⟩ := h.keyless hnone
      exact Bool.false_ne_true (lost.symm.trans hwon)
    obtain ⟨hsnap, hcount, hunspent⟩ := h.keyed hkey
    rw [DwellRecord.roll_of_won hwon]
    refine ⟨fun hnone => absurd hnone hkey, fun _ => ⟨hsnap, ?_, fun _ => bound⟩⟩
    cases hspent : u.dwell.spent with
    | true => exact hcount
    | false =>
      obtain ⟨below, bound⟩ := hunspent hspent
      exact below.trans_le bound
  | false =>
    rcases Option.eq_none_or_eq_some u.dwell.candidate with hc | ⟨⟨key, snap⟩, hc⟩
    · rw [DwellRecord.roll_of_left hwon hc]
      exact ⟨fun _ => ⟨rfl, rfl, rfl, rfl⟩, fun hkey => absurd rfl hkey⟩
    · rw [DwellRecord.roll_of_candidate hwon hc]
      exact ⟨nofun, fun _ => ⟨Option.some_ne_none snap, Nat.one_le_ofNat, fun _ => bound⟩⟩

end

/-! ### The Gate Unit's operations -/

section
variable {s : State} (h : GateSound s.gate)
include h

theorem gateSound_gateWinner (w : Winner) : GateSound (gateWinner w s).gate := by
  rw [gateWinner_gate]
  refine (h.counted w _ _).withHover fun off => h.hoverAfter_of_off w ?_
  rwa [GateUnit.counted_active] at off

theorem gateSound_closeDeciding (stopped : Bool) : GateSound (closeDeciding stopped s).gate := by
  rw [(closeDeciding_spec stopped s).1]
  exact gateSound_closed h

theorem gateSound_closeByLength : GateSound (closeByLength s).gate := by
  unfold closeByLength
  repeat' split
  · exact gateSound_closeDeciding h false
  · exact h
  · exact h

/-- R103: the gate opens below its length, with an empty Tally and an empty Dwell Record. -/
theorem gateSound_openGate : GateSound (openGate s).gate := by
  rcases Option.eq_none_or_eq_some s.gate.gate with hg | ⟨g, hg⟩
  · rw [openGate_of_closed hg]
    exact { h with
      closed := nofun, tallyLength := Nat.zero_le 8, tallyKeys := List.nodup_nil, votes := nofun
      frameCount := fun _ hsome => Option.some.inj hsome ▸ h.active.length
      opened := fun _ => ⟨rfl, rfl⟩, keyless := fun _ => ⟨rfl, rfl, rfl, rfl⟩
      keyed := fun hkey => absurd rfl hkey }
  · have opened : openGate s = s := by simp only [openGate, hg]
    rwa [opened]

/-- R108: a gate whose raised count reaches its length closes, so that no OPEN one is left at it. -/
theorem gateSound_closeByLength_raised : GateSound (closeByLength (raiseGateCount s)).gate := by
  rcases Option.eq_none_or_eq_some s.gate.gate with hg | ⟨g, hg⟩
  · rwa [raiseGateCount_of_closed hg, closeByLength_of_closed hg]
  · rw [raiseGateCount_of_open hg]
    obtain ⟨_, bound⟩ := h.active.length
    by_cases reached : s.gate.active.length ≤ g.frameCount + 1
    · rw [closeByLength_of_reached rfl reached, (closeDeciding_spec false _).1, GateUnit.closed_of_open rfl]
      exact h.withClosed _
    · have below := Nat.not_le.1 reached
      rw [closeByLength_of_below rfl below]
      exact h.withOpen hg ⟨below, bound⟩

/-- R115: after the dwell report no unspent key is left at its limit. -/
theorem gateSound_dwellReport_of_reportable {d : DwellRecord} (closed : s.gate.gate = none) (hd : d.Reportable) :
    GateSound (dwellReport (s.setGate { s.gate with dwell := d })).gate := by
  obtain ⟨keyless, keyed⟩ := hd
  by_cases due : ∃ key snap, DwellDue key snap { s.gate with dwell := d }
  · obtain ⟨key, snap, due⟩ := due
    have hkey : d.key ≠ none := due.key.symm ▸ Option.some_ne_none key
    obtain ⟨hsnap, hcount, _⟩ := keyed hkey
    rw [(dwellReport_of_due due).1]
    exact { h.withDwell (d := { d with spent := true }) closed (fun hnone => absurd hnone hkey)
      (fun _ => ⟨hsnap, hcount, nofun⟩) with }
  · rw [dwellReport_of_not_due fun key snap hdue => due ⟨key, snap, hdue⟩]
    refine h.withDwell closed keyless fun hkey => ?_
    obtain ⟨hsnap, hcount, bound⟩ := keyed hkey
    refine ⟨hsnap, hcount, fun unspent => ⟨Nat.not_le.1 fun reached => due ?_, bound unspent⟩⟩
    obtain ⟨key, hkey⟩ := Option.ne_none_iff_exists'.1 hkey
    obtain ⟨snap, hsnap⟩ := Option.ne_none_iff_exists'.1 hsnap
    exact ⟨key, snap, closed, hkey, hsnap, unspent, reached⟩

theorem gateSound_dwellReport : GateSound (dwellReport s).gate := by
  rcases Option.eq_none_or_eq_some s.gate.gate with hg | ⟨g, hg⟩
  · exact gateSound_dwellReport_of_reportable h hg h.reportable
  · rwa [dwellReport_of_not_due fun _ _ due => Option.some_ne_none g (hg.symm.trans due.closed)]

theorem gateSound_dwellFrameEnd : GateSound (dwellFrameEnd s).gate := by
  rcases Option.eq_none_or_eq_some s.gate.gate with hg | ⟨g, hg⟩
  · rw [dwellFrameEnd_of_closed hg]
    obtain ⟨_, bound⟩ := h.active.dwell
    exact gateSound_dwellReport_of_reportable h hg (h.roll_reportable bound)
  · have left : dwellFrameEnd s = s := by simp only [dwellFrameEnd, hg]
    rwa [left]

theorem gateSound_hoverFrameEnd : GateSound (hoverFrameEnd s).gate :=
  h.withHover fun off => by simp [h.hover off]

theorem gateSound_present : GateSettingsSound (presentValue s.gate.active s.gate.shadow) :=
  presentValue_of h.active h.shadow

theorem gateSound_applyGateShadow : GateSound (applyGateShadow s).gate :=
  { h with
    active := gateSound_present h
    shadow := nofun
    hover := fun off => if_neg (Bool.eq_false_iff.1 off) }

theorem gateSound_passGate (ws : List Word) : GateSound (passGate ws s).gate :=
  h.withShadow fun _ hc => shadowOf_eq_some hc ▸ (gateSound_present h).gateCandidate ws

end

/-- R118: the Gate Unit's own order at a frame end keeps it sound. -/
theorem gateSound_gateFrameEnd {s : State} (h : GateSound s.gate) : GateSound (gateFrameEnd s).gate :=
  gateSound_applyGateShadow (gateSound_hoverFrameEnd (gateSound_dwellFrameEnd (gateSound_closeByLength_raised h)))

theorem gateSound_kept : Kept (fun s => GateSound s.gate) := by
  constructor
  case plain =>
    rintro s t ⟨_, _, _, _, hgate, _, _, _, _⟩ h
    exact hgate ▸ h
  all_goals rintro s
  case gateWinner => exact fun w h => gateSound_gateWinner h w
  case closeDeciding => exact fun stopped h => gateSound_closeDeciding h stopped
  case closeGate => exact fun h => h.withClosed _
  case openGate => exact fun h => gateSound_openGate h
  case gateFrameEnd => exact fun h => gateSound_gateFrameEnd h
  case gateInvalidated => exact fun text h => gateInvalidated_gate text _ ▸ h.invalidatedBy _
  case passGate => exact fun ws h => gateSound_passGate h ws
  case closeByLength => exact fun h => gateSound_closeByLength h
  case dwellReport => exact fun h => gateSound_dwellReport h
  case powerUp => exact fun _ _ => gateSound_reset gateSettingsSound_powerUp
  case init => exact fun _ h => gateSound_reset h.active
  all_goals
    intros
    simpa

end Sys2Proof.Machine
end

section
/-! # The Tracking Unit stays sound, and with it the Gate Unit (R38, R140 to R156)

As for the Gate Unit: the operations that change the unit, and the induction over a step. -/

namespace Sys2Proof.Machine

/-! ### The box and the position (R38, R141, R145, R148) -/

theorem trackSettingsSound_powerUp : TrackSettingsSound TrackSettings.powerUp := by
  constructor <;> decide

theorem orderedPair_le (a b : Coord) : (orderedPair a b).1.toNat ≤ (orderedPair a b).2.toNat := by
  unfold orderedPair
  split_ifs with h
  · exact h.le
  · exact Nat.not_lt.1 h

/-- R32, R38, R140: the arguments of a TRACK are clamped, and its box pairs put in order. -/
theorem TrackSettingsSound.trackCandidate {b : TrackSettings} (h : TrackSettingsSound b) (p : BitVec 12)
    (ws : List Word) : TrackSettingsSound (trackCandidate p ws b) := by
  refine withArgument_keeps (fun w _ h => ?_) (withArgument_keeps (fun w _ h => ?_)
    (withArgument_keeps (fun w _ h => ?_) ?_))
  · exact { h with boxY := orderedPair_le _ _ }
  · exact { h with boxX := orderedPair_le _ _ }
  · exact { h with
      gainShift := Nat.le_of_lt_succ (bitsAt w 0 2).isLt
      lossLimit := ⟨le_clampNat, clampNat_le (by decide)⟩ }
  · exact { h with }

/-- A position lies within a box (R141). -/
structure InBox (b : TrackSettings) (p : Coord × Coord) : Prop where
  x : b.xmin.toNat ≤ p.1.toNat ∧ p.1.toNat ≤ b.xmax.toNat
  y : b.ymin.toNat ≤ p.2.toNat ∧ p.2.toNat ≤ b.ymax.toNat

theorem clampCoord_mem {lo hi : Coord} (v : Int) (h : lo.toNat ≤ hi.toNat) :
    lo.toNat ≤ (clampCoord lo hi v).toNat ∧ (clampCoord lo hi v).toNat ≤ hi.toNat :=
  have ⟨lower, upper, _⟩ := clampCoord_spec v h
  ⟨lower, upper⟩

section
variable {b : TrackSettings} (h : TrackSettingsSound b)
include h

theorem inBox_intoBox (x y : Coord) : InBox b (intoBox b x y) := ⟨clampCoord_mem _ h.boxX, clampCoord_mem _ h.boxY⟩

/-- R148: the one coordinate that a cross strike moves is clamped. -/
theorem inBox_filterStep (mode : Rounding) {tx ty : Coord} (bx by_ : Coord) (inside : InBox b (tx, ty)) :
    InBox b (filterStep mode b tx ty bx by_) := by
  unfold filterStep
  dsimp only
  split_ifs
  · exact ⟨clampCoord_mem _ h.boxX, inside.y⟩
  · exact ⟨inside.x, clampCoord_mem _ h.boxY⟩

theorem trackerSound_reset {x y : Coord} (inside : InBox b (x, y)) : TrackerSound (Tracker.reset b x y) where
  active := h
  shadow := nofun
  positionX := inside.x
  positionY := inside.y
  lossCount := Nat.zero_le 15
  off := fun _ => ⟨rfl, rfl, rfl⟩
  running := fun hrun => absurd rfl hrun
  tracking := nofun
  compared := h.lossLimit.1
  cross := fun _ => rfl

end

/-! ### A sound Tracking Unit -/

theorem tipStart_inBox {t : Tracker} {p : Coord × Coord} (h : TrackSettingsSound t.active)
    (start : tipStart t = some p) : InBox t.active p := by
  unfold tipStart at start
  split at start
  · split_ifs at start
    exact Option.some.inj start ▸ inBox_intoBox h ..
  · cases start

theorem startTrackPosition_inBox {ws : List Word} {s : State} {p : Coord × Coord}
    (h : TrackSettingsSound s.tracker.active) (start : startTrackPosition ws s = .ok p) :
    InBox s.tracker.active p := by
  unfold startTrackPosition at start
  split_ifs at start
  split at start
  · exact Except.ok.inj start ▸ inBox_intoBox h ..
  · exact Except.ok.inj start ▸ inBox_intoBox h ..
  · cases start

section
variable {t : Tracker} (h : TrackerSound t)
include h

theorem TrackerSound.inBox : InBox t.active (t.tx, t.ty) := ⟨h.positionX, h.positionY⟩

theorem TrackerSound.withShadow {x : Option TrackSettings} (hx : ∀ b, x = some b → TrackSettingsSound b) :
    TrackerSound { t with shadow := x } := { h with shadow := hx }

theorem TrackerSound.withWriteBack (x : Option WriteBack) : TrackerSound { t with writeBack := x } := { h with }

/-- R142: a record stands only under a cross name. -/
theorem TrackerSound.withCross {x : Option CrossRecord} (hx : t.active.crossName = 0 → x = none) :
    TrackerSound { t with cross := x } := { h with cross := hx }

/-- A change of the record alone keeps it absent where it is absent. -/
theorem TrackerSound.mapCross (f : CrossRecord → CrossRecord) : TrackerSound { t with cross := t.cross.map f } :=
  h.withCross fun unnamed => by simp [h.cross unnamed]

/-- R149: a run that has missed its cross too often is LOST. -/
theorem TrackerSound.withLost (running : t.state ≠ .off) : TrackerSound { t with state := .lost } :=
  { h with off := nofun, running := fun _ => h.running running, tracking := nofun }

/-- R151: a run has ended. -/
theorem TrackerSound.runEnd : TrackerSound (runEndTracker t) :=
  { h with
    lossCount := Nat.zero_le 15, off := fun _ => ⟨rfl, rfl, rfl⟩, running := fun hrun => absurd rfl hrun
    tracking := nofun }

/-- R147: a run begins in the box, with nothing counted. -/
theorem TrackerSound.begin {p : Coord × Coord} (inside : InBox t.active p) : TrackerSound { t with
    state := .tracking, tx := p.1, ty := p.2, lossCount := 0, crossStruck := false, lastReported := none
    sightedThisFrame := false, sightedLastFrame := false
    cross := t.cross.map (fun c => { c with substituted := false }) } :=
  { h.mapCross (fun c => { c with substituted := false }) with
    positionX := inside.x, positionY := inside.y, lossCount := Nat.zero_le 15, off := nofun
    running := fun _ => ⟨rfl, rfl⟩, tracking := fun _ => h.compared }

/-- R148: a cross strike moves the position of a run within the box. -/
theorem TrackerSound.struck {p : Coord × Coord} (running : t.state ≠ .off) (inside : InBox t.active p) :
    TrackerSound { t with tx := p.1, ty := p.2, crossStruck := true } :=
  { h with positionX := inside.x, positionY := inside.y, off := fun hoff => absurd hoff running }

theorem TrackerSound.withReported (running : t.state ≠ .off) (x : Option (Coord × Coord)) :
    TrackerSound { t with lastReported := x } :=
  { h with off := fun hoff => absurd hoff running }

/-- R148: a cross strike of a LOST run brings it back to TRACKING. -/
theorem TrackerSound.reacquired (running : t.state ≠ .off) :
    TrackerSound { t with state := .tracking, lossCount := 0 } :=
  { h with
    lossCount := Nat.zero_le 15, off := nofun, running := fun _ => h.running running, tracking := fun _ => h.compared }

/-- R150: at a frame end the settings' shadow becomes active, the position clamped into a box that changes and the
record dropped with a cross name that does. -/
theorem TrackerSound.applyTrackShadow : TrackerSound (applyTrackShadow t) := by
  unfold Machine.applyTrackShadow
  split
  · exact h
  · rename_i b hb
    have sound := h.shadow b hb
    have unnamed : b.crossName = 0 → (if b.crossName = t.active.crossName then t.cross else none) = none := by
      intro hzero
      split_ifs with same
      · exact h.cross (same ▸ hzero)
      · rfl
    have inside : InBox b (if b.xmin ≠ t.active.xmin ∨ b.xmax ≠ t.active.xmax ∨ b.ymin ≠ t.active.ymin ∨
        b.ymax ≠ t.active.ymax then intoBox b t.tx t.ty else (t.tx, t.ty)) := by
      split_ifs with changed
      · exact inBox_intoBox sound ..
      · simp only [not_or, not_not] at changed
        obtain ⟨hxmin, hxmax, hymin, hymax⟩ := changed
        exact ⟨hxmin ▸ hxmax ▸ h.positionX, hymin ▸ hymax ▸ h.positionY⟩
    exact { h with
      active := sound, shadow := nofun, positionX := inside.x, positionY := inside.y, cross := unnamed }

theorem TrackerSound.trackRollFrame : TrackerSound (trackRollFrame t) := by
  refine TrackerSound.applyTrackShadow ?_
  exact { h.mapCross (fun c => { c with fetchedThisFrame := false }) with
    running := fun hrun => ⟨rfl, (h.running hrun).1⟩ }

end

/-! ### The Tracking Unit's operations -/

theorem Tracker.runs_iff (t : Tracker) : t.runs = true ↔ t.state ≠ .off := bne_iff_ne

theorem requestTrack_tracker (reacquired : Bool) (view : ViewSettings) (s : State) :
    (requestTrack reacquired view s).tracker =
      { s.tracker with lastReported := some (s.tracker.tx, s.tracker.ty) } := by
  simp [requestTrack]

/-- R149: the run goes LOST at the limit its count was compared with. -/
theorem goLost_tracker (view : ViewSettings) (s : State) : (goLost view s).tracker =
    if s.tracker.state = .tracking ∧ s.tracker.comparedLoss ≤ s.tracker.lossCount then
      { s.tracker with state := .lost } else s.tracker := by
  unfold goLost
  split_ifs <;> simp

theorem countLoss_of_off {s : State} (off : s.tracker.state = .off) : countLoss s = s := by
  simp [countLoss, Tracker.runs, off]

section
variable {s : State} (h : TrackerSound s.tracker)
include h

theorem trackerSound_trackMove (a : Addr) (w : Word) (n : Name) : TrackerSound (trackMove a w n s).tracker := by
  unfold trackMove
  split_ifs with named
  · exact h.withCross fun unnamed => absurd unnamed named.1
  · exact h

theorem trackerSound_trackNotice (a : Addr) : TrackerSound (trackNotice a s).tracker := by
  have marked := h.mapCross fun c => if c.addr = a then { c with substituted := false } else c
  unfold trackNotice
  dsimp only
  repeat' split
  · simpa using marked.withWriteBack none
  · exact marked
  · exact marked

theorem trackerSound_trackSighting : TrackerSound (trackSighting s).tracker := by
  by_cases off : s.tracker.state = .off
  · rw [trackSighting_of_off off]
    exact { h with running := fun hrun => absurd off hrun }
  · rwa [trackSighting_of_running off]

theorem trackerSound_trackCross (x y : Coord) : TrackerSound (trackCross x y s).tracker := by
  unfold trackCross
  dsimp only
  split_ifs with hoff hlost
  · exact h
  · have running : s.tracker.state ≠ .off := (Tracker.runs_iff _).1 (by simpa using hoff)
    have struck := h.struck running (inBox_filterStep h.active s.loft.active.rounding x y h.inBox)
    rw [requestTrack_tracker]
    exact (struck.reacquired running).withReported nofun _
  · have running : s.tracker.state ≠ .off := (Tracker.runs_iff _).1 (by simpa using hoff)
    exact h.struck running (inBox_filterStep h.active s.loft.active.rounding x y h.inBox)

theorem trackerSound_endRun (r : EndReason) : TrackerSound (endRun r s).tracker := by
  rw [endRun_tracker]
  split_ifs
  · exact h
  · exact h.runEnd

theorem trackerSound_goLost (view : ViewSettings) : TrackerSound (goLost view s).tracker := by
  rw [goLost_tracker]
  split_ifs with lost
  · exact h.withLost (lost.1 ▸ nofun)
  · exact h

/-- R149: a run whose raised loss count reaches its limit goes LOST, so that none is left TRACKING at it. -/
theorem trackerSound_goLost_counted (view : ViewSettings) : TrackerSound (goLost view (countLoss s)).tracker := by
  rw [goLost_tracker]
  by_cases off : s.tracker.state = .off
  · rw [countLoss_of_off off, if_neg (by simp [off])]
    exact h
  · have counted : (countLoss s).tracker = { s.tracker with
        lossCount := if s.tracker.crossStruck then 0 else min 15 (s.tracker.lossCount + 1)
        comparedLoss := s.tracker.active.lossLimit, crossStruck := false } := by
      simp [countLoss, Tracker.runs, off]
    rw [counted]
    have bound : (if s.tracker.crossStruck then 0 else min 15 (s.tracker.lossCount + 1)) ≤ 15 := by
      split_ifs
      · exact Nat.zero_le 15
      · exact Nat.min_le_left ..
    generalize (if s.tracker.crossStruck then 0 else min 15 (s.tracker.lossCount + 1)) = n at bound ⊢
    split_ifs with lost
    · exact { h with
        lossCount := bound, off := nofun, running := fun _ => h.running off, tracking := nofun
        compared := h.active.lossLimit.1 }
    · exact { h with
        lossCount := bound, off := fun hoff => absurd hoff off, compared := h.active.lossLimit.1
        tracking := fun tracking => Nat.not_le.1 fun reached => lost ⟨tracking, reached⟩ }

theorem trackerSound_frameTrack (view : ViewSettings) : TrackerSound (frameTrack view s).tracker := by
  unfold frameTrack
  split_ifs with moved
  · rw [requestTrack_tracker]
    exact h.withReported (moved.1 ▸ nofun) _
  · exact h

theorem trackerSound_passTrack (p : BitVec 12) (ws : List Word) : TrackerSound (passTrack p ws s).tracker :=
  h.withShadow fun _ hb => shadowOf_eq_some hb ▸
    TrackSettingsSound.trackCandidate (presentValue_of h.active h.shadow) p ws

theorem trackerSound_writeBackAnswered : TrackerSound (writeBackAnswered s).tracker := by
  unfold writeBackAnswered
  repeat' split
  · exact h.withWriteBack none
  · exact h
  · exact h

theorem trackerSound_markGranted (c : OwnCycle) : TrackerSound (markGranted c s).tracker := by
  cases c with
  | writeBack a w => exact h.withWriteBack _
  | claim a => simpa [markGranted] using h
  | _ => exact h

end

/-- R149, R150: the Tracking Unit's own order at a frame end keeps it sound. -/
theorem trackerSound_trackFrameEnd {s : State} (h : TrackerSound s.tracker) (view : ViewSettings) :
    TrackerSound (trackFrameEnd view s).tracker :=
  (trackerSound_frameTrack (trackerSound_goLost_counted h view) view).trackRollFrame

theorem trackerSound_kept : Kept (fun s => TrackerSound s.tracker) := by
  constructor
  case plain =>
    rintro s t ⟨_, _, _, _, _, _, htracker, _, _⟩ h
    exact htracker ▸ h
  all_goals rintro s
  case trackMove => exact fun a w n h => trackerSound_trackMove h a w n
  case trackNotice => exact fun a h => trackerSound_trackNotice h a
  case trackSighting => exact fun h => trackerSound_trackSighting h
  case trackCross => exact fun x y h => trackerSound_trackCross h x y
  case tipStart => exact fun p start h => h.begin (tipStart_inBox h.active start)
  case startTrack => exact fun ws p start h => h.begin (startTrackPosition_inBox h.active start)
  case endRun => exact fun r h => trackerSound_endRun h r
  case trackFrameEnd => exact fun view h => trackerSound_trackFrameEnd h view
  case passTrack => exact fun p ws h => trackerSound_passTrack h p ws
  case goLost => exact fun view h => trackerSound_goLost h view
  case writeBackAnswered => exact fun h => trackerSound_writeBackAnswered h
  case markGranted => exact fun c h => trackerSound_markGranted h c
  case powerUp => exact fun _ _ => trackerSound_reset trackSettingsSound_powerUp (by constructor <;> decide)
  case init => exact fun _ h => trackerSound_reset h.active h.inBox
  all_goals
    intros
    simpa

/-- Settles O58, by the induction over a step for each of the two units. -/
theorem stepKeepsGateAndTrackerSound : Obligations.StepKeepsGateAndTrackerSound :=
  ⟨fun _ _ h hstep => gateSound_kept.step h hstep, fun _ _ h hstep => trackerSound_kept.step h hstep⟩

end Sys2Proof.Machine
end

section
/-! # The Gate Unit's turn at a frame end (R15, R107 to R118, R174, R176)

A frame end reaches its blocks in a free order. The Gate Unit's own turn meets the blocks before it and those after it
only at the Echo Unit and the Report Writer, so that what the frame end leaves follows from what the turn does there. -/

namespace Sys2Proof.Machine

/-! ### The Gate Unit's own frame end -/

section
variable {key : Key} {snap : Snapshot} {e : EchoUnit}

/-- R111: only an item neither LOCKED nor STALE is echoed as an item. -/
theorem EchoUnit.afterPick_item_of_unasked (h : snap.locked = true ∨ snap.stale = true ∨ key.item = none) :
    (e.afterPick key snap).item = e.item := by
  unfold EchoUnit.afterPick
  repeat' split
  all_goals simp_all

/-- R111: only a segment is echoed as a segment. -/
theorem EchoUnit.afterPick_picked_of_unasked (h : snap.locked = true ∨ key.item.isSome = true) :
    (e.afterPick key snap).picked = e.picked := by
  unfold EchoUnit.afterPick
  repeat' split
  all_goals simp_all

end

section
variable {s : State}

/-- R114: a Dwell Record that won nothing in the frame is emptied at its end. -/
theorem dwellFrameEnd_of_left (closed : s.gate.gate = none) (lost : s.gate.dwell.won = false)
    (left : s.gate.dwell.candidate = none) :
    dwellFrameEnd s = s.setGate { s.gate with dwell := .empty } := by
  rw [dwellFrameEnd_of_closed closed, DwellRecord.roll_of_left lost left]
  exact dwellReport_of_not_due fun key _ due => Option.some_ne_none key due.key.symm

/-- R107, R118: a gate that reaches its length at a frame end closes with its decision, and the Dwell Record stays
empty. -/
theorem gateFrameEnd_of_reached {g : OpenGate} (sound : GateSound s.gate) (hopen : s.gate.gate = some g)
    (reached : s.gate.active.length ≤ g.frameCount + 1) :
    (gateFrameEnd s).gate.gate = none ∧ (gateFrameEnd s).gate.tally = [] ∧ (gateFrameEnd s).gate.dwell = .empty ∧
    (gateFrameEnd s).gate.lastPick = s.gate.closed.lastPick ∧
    (gateFrameEnd s).echo = s.echo.afterClose s.gate ∧
    (gateFrameEnd s).reports = reportsAsked (decisionReports false s) s := by
  obtain ⟨hkey, hcandidate⟩ := sound.opened (hopen ▸ Option.some_ne_none g)
  obtain ⟨_, _, lost, _⟩ := sound.keyless hkey
  let u := s.setGate { s.gate with
    gate := some { g with frameCount := g.frameCount + 1, comparedLength := s.gate.active.length } }
  have closed : closeByLength (raiseGateCount s) = closeDeciding false u := by
    rw [raiseGateCount_of_open hopen, closeByLength_of_reached rfl reached]
  obtain ⟨hgate, hecho, hreports⟩ := closeDeciding_spec false u
  rw [GateUnit.closed_of_open rfl] at hgate
  have echoed : s.echo.afterClose u.gate = s.echo.afterClose s.gate := by
    simp [EchoUnit.afterClose, hopen, u]
  have decided : reportsAsked (decisionReports false u) u = reportsAsked (decisionReports false s) s := by
    have same : decisionReports false u = decisionReports false s := by
      simp only [decisionReports, hopen]
      rfl
    rw [same]
    exact reportsAsked_congr _ rfl
  have dwell : dwellFrameEnd (closeDeciding false u) =
      (closeDeciding false u).setGate { (closeDeciding false u).gate with dwell := .empty } :=
    dwellFrameEnd_of_left (congrArg (·.gate) hgate) (hgate ▸ lost) (hgate ▸ hcandidate)
  rw [gateFrameEnd, closed, dwell]
  refine ⟨?_, ?_, rfl, ?_, ?_, ?_⟩
  · exact congrArg (·.gate) hgate
  · exact congrArg (·.tally) hgate
  · rw [GateUnit.closed_of_open hopen]
    exact congrArg (·.lastPick) hgate
  · simpa using hecho.trans echoed
  · simpa using hreports.trans decided

/-- R114, R115, R118: a dwell that reaches its limit at a frame end is reported. -/
theorem gateFrameEnd_of_dwell {key : Key} {snap : Snapshot} (closed : s.gate.gate = none)
    (hkey : s.gate.dwell.key = some key) (hsnap : s.gate.dwell.snapshot = some snap)
    (unspent : s.gate.dwell.spent = false) (won : s.gate.dwell.won = true)
    (reached : s.gate.active.dwell ≤ s.gate.dwell.count + 1) :
    (gateFrameEnd s).gate.dwell = { s.gate.dwell with
      count := s.gate.dwell.count + 1, spent := true, won := false, candidate := none
      comparedDwell := s.gate.active.dwell } ∧
    (gateFrameEnd s).gate.lastPick = some (pickedLast snap) ∧
    (gateFrameEnd s).echo = s.echo.afterPick key snap ∧
    (gateFrameEnd s).reports =
      reportsAsked [{ dwellPick key snap s with winnerVotes := s.gate.dwell.count + 1 }] s := by
  let d := { s.gate.dwell with
    count := s.gate.dwell.count + 1, won := false, candidate := none, comparedDwell := s.gate.active.dwell }
  have rolled : s.gate.dwell.roll s.gate.active.dwell = d := by
    simp [DwellRecord.roll_of_won won, unspent, d]
  have due : DwellDue key snap { s.gate with dwell := d } := ⟨closed, hkey, hsnap, unspent, reached⟩
  obtain ⟨hgate, hecho, hreports⟩ := dwellReport_of_due (s := s.setGate { s.gate with dwell := d }) due
  rw [gateFrameEnd, raiseGateCount_of_closed closed, closeByLength_of_closed closed, dwellFrameEnd_of_closed closed,
    rolled]
  refine ⟨congrArg (·.dwell) hgate, congrArg (·.lastPick) hgate, ?_, ?_⟩
  · simpa using hecho
  · have asked : reportsAsked [dwellPick key snap (s.setGate { s.gate with dwell := d })]
        (s.setGate { s.gate with dwell := d }) =
        reportsAsked [{ dwellPick key snap s with winnerVotes := s.gate.dwell.count + 1 }] s :=
      reportsAsked_congr _ rfl
    simpa using hreports.trans asked

end

/-! ### The blocks before and after it -/

@[simp] theorem requestReport_shadow (r : Report) (s : State) :
    (requestReport r s).reports.shadow = s.reports.shadow := by
  have enqueued : (s.reports.enqueue r).shadow = s.reports.shadow := by
    unfold ReportWriter.enqueue ReportWriter.append
    split_ifs <;> rfl
  unfold requestReport takeNext
  split
  · simpa [enterClaim] using enqueued
  · simpa using enqueued

theorem reportsAsked_shadow (l : List Report) (s : State) : (reportsAsked l s).shadow = s.reports.shadow := by
  unfold reportsAsked
  induction l generalizing s with
  | nil => rfl
  | cons r l ih => exact (ih _).trans (requestReport_shadow r s)

/-- R149, R150: in OFF a frame end reports nothing of tracking. -/
theorem trackFrameEnd_of_off {s : State} (view : ViewSettings) (off : s.tracker.state = .off) :
    trackFrameEnd view s = s.setTracker (trackRollFrame s.tracker) := by
  have quiet : frameTrack view (goLost view (countLoss s)) = s := by
    simp [countLoss_of_off off, goLost, frameTrack, off]
  rw [trackFrameEnd, quiet]

theorem trackRollFrame_state (t : Tracker) : (trackRollFrame t).state = t.state := by
  unfold trackRollFrame applyTrackShadow
  split <;> rfl

/-- Nothing but the Gate Unit asks for a report or applies a ring at a frame end: no run goes on and no ring is pending
(R150, R196). -/
structure QuietBesideGate (s : State) : Prop where
  off : s.tracker.state = .off
  ring : s.reports.shadow = none

/-- R27: the Order Follower's turn reports at most a DISPLAY-RESUMED. -/
theorem frameEndAt_follower_aside (x : FrameFacts) (s : State) :
    (frameEndAt x s .follower).gate = s.gate ∧ (frameEndAt x s .follower).echo = s.echo := by
  unfold frameEndAt
  dsimp only
  split <;> simp

section
variable {x : FrameFacts} {e : FrameTaker} {s : State} (h : e ≠ .gate)
include h

theorem frameEndAt_gate : (frameEndAt x s e).gate = s.gate := by
  cases e with
  | gate => exact absurd rfl h
  | follower => exact (frameEndAt_follower_aside x s).1
  | _ => simp [frameEndAt]

theorem frameEndAt_picked (no_drop : x.dropped = []) : (frameEndAt x s e).echo.picked = s.echo.picked := by
  cases e with
  | gate => exact absurd rfl h
  | follower => simp [frameEndAt_follower_aside]
  | segments => simp only [frameEndAt, echoDropped, no_drop]; split <;> simp
  | echo => simp [frameEndAt, echoFrameEnd_echo]
  | _ => simp [frameEndAt]

/-- R176: the Echo Unit alone takes a frame of the item echo. -/
theorem frameEndAt_item : (frameEndAt x s e).echo.item =
    if e = .echo then echoOneFrameOn s.echo.item else s.echo.item := by
  cases e with
  | gate => exact absurd rfl h
  | follower => simp [frameEndAt_follower_aside]
  | segments =>
    rw [if_neg nofun, frameEndAt, echoDropped]
    split
    · split_ifs <;> rfl
    · rfl
  | echo => simp [frameEndAt, echoFrameEnd_echo]
  | _ => simp [frameEndAt]

theorem frameEndAt_quiet (running : x.resumedAt = none) (quiet : QuietBesideGate s) :
    (frameEndAt x s e).reports = s.reports ∧ QuietBesideGate (frameEndAt x s e) := by
  obtain ⟨off, ring⟩ := quiet
  cases e with
  | gate => exact absurd rfl h
  | follower =>
    have none_resumed : frameEndAt x s .follower = s := by simp [frameEndAt, running]
    rw [none_resumed]
    exact ⟨rfl, off, ring⟩
  | segments => exact ⟨by simp [frameEndAt], by simpa [frameEndAt] using off, by simpa [frameEndAt] using ring⟩
  | tracker =>
    rw [frameEndAt, trackFrameEnd_of_off x.view off]
    exact ⟨rfl, (trackRollFrame_state _).trans off, ring⟩
  | echo => exact ⟨by simp [frameEndAt], by simpa [frameEndAt] using off, by simpa [frameEndAt] using ring⟩
  | reports =>
    have none_pending : frameEndAt x s .reports = s := by simp [frameEndAt, reportsFrameEnd, ring]
    rw [none_pending]
    exact ⟨rfl, off, ring⟩

end

section
variable {x : FrameFacts} {l : List FrameTaker} (h : .gate ∉ l)
include h

theorem foldl_frameEndAt_gate (s : State) : (l.foldl (frameEndAt x) s).gate = s.gate := by
  induction l generalizing s with
  | nil => rfl
  | cons e l ih =>
    obtain ⟨he, hl⟩ := List.ne_and_not_mem_of_not_mem_cons h
    exact (ih hl _).trans (frameEndAt_gate (Ne.symm he))

theorem foldl_frameEndAt_picked (no_drop : x.dropped = []) (s : State) :
    (l.foldl (frameEndAt x) s).echo.picked = s.echo.picked := by
  induction l generalizing s with
  | nil => rfl
  | cons e l ih =>
    obtain ⟨he, hl⟩ := List.ne_and_not_mem_of_not_mem_cons h
    exact (ih hl _).trans (frameEndAt_picked (Ne.symm he) no_drop)

theorem foldl_frameEndAt_item (once : l.Nodup) (s : State) : (l.foldl (frameEndAt x) s).echo.item =
    if .echo ∈ l then echoOneFrameOn s.echo.item else s.echo.item := by
  induction l generalizing s with
  | nil => rfl
  | cons e l ih =>
    obtain ⟨he, hl⟩ := List.ne_and_not_mem_of_not_mem_cons h
    obtain ⟨new, once⟩ := List.nodup_cons.1 once
    rw [List.foldl_cons, ih hl once, frameEndAt_item (Ne.symm he)]
    by_cases hecho : e = .echo
    · subst hecho
      simp [new]
    · simp [hecho, Ne.symm hecho]

theorem foldl_frameEndAt_quiet (running : x.resumedAt = none) {s : State} (quiet : QuietBesideGate s) :
    (l.foldl (frameEndAt x) s).reports = s.reports ∧ QuietBesideGate (l.foldl (frameEndAt x) s) := by
  induction l generalizing s with
  | nil => exact ⟨rfl, quiet⟩
  | cons e l ih =>
    obtain ⟨he, hl⟩ := List.ne_and_not_mem_of_not_mem_cons h
    obtain ⟨same, quiet⟩ := frameEndAt_quiet (Ne.symm he) running quiet
    obtain ⟨rest, quiet⟩ := ih hl quiet
    exact ⟨rest.trans same, quiet⟩

end

/-! ### The turn -/

/-- In a frame end that leads from one state to another, the Gate Unit takes its turn in the state `u`: what the blocks
before it and those after it do meets its own work only at the item echo, and at the segment echo and the reports where
another block has something to drop or to report. -/
structure GateTurn (s u t : State) : Prop where
  frame : u.follower.frameNo = s.follower.frameNo + 1
  time : u.time = s.time
  found : u.gate = s.gate
  gate : t.gate = (gateFrameEnd u).gate
  picked : (∀ e ∈ s.segments.entries, e.dropPending = false) →
    u.echo.picked = s.echo.picked ∧ t.echo.picked = (gateFrameEnd u).echo.picked
  item : (u.echo.item = s.echo.item ∧ t.echo.item = echoOneFrameOn (gateFrameEnd u).echo.item) ∨
    (u.echo.item = echoOneFrameOn s.echo.item ∧ t.echo.item = (gateFrameEnd u).echo.item)
  reports : QuietBesideGate s → s.follower.display = .running → ∀ l,
    (gateFrameEnd u).reports = reportsAsked l u → t.reports = reportsAsked l s

theorem frameEndQuiet_follower (s : State) : (frameEndQuiet s).follower = s.follower.frameEnd s.time := by
  simp [frameEndQuiet]

theorem gateTurn_frameEnd (a : Addr) (s : State) : ∃ u, GateTurn s u (frameEnd a s) := by
  have perm := permute_perm (drawn s) frameTakers
  have once : (permute (drawn s) frameTakers).Nodup := perm.nodup_iff.2 (by decide)
  obtain ⟨before, after, order⟩ := List.append_of_mem (perm.mem_iff.2 (by decide : FrameTaker.gate ∈ frameTakers))
  have echo : FrameTaker.echo ∈ before ++ .gate :: after := order ▸ perm.mem_iff.2 (by decide)
  rw [order] at once
  obtain ⟨hbefore, hafter, apart⟩ := List.nodup_append.1 once
  obtain ⟨gate_after, hafter⟩ := List.nodup_cons.1 hafter
  have gate_before : FrameTaker.gate ∉ before := fun h => apart _ h _ List.mem_cons_self rfl
  let x := frameFacts a (afterDraw s)
  let start := frameEndQuiet (afterDraw s)
  let u := before.foldl (frameEndAt x) start
  have ended : frameEnd a s = after.foldl (frameEndAt x) (gateFrameEnd u) := by
    rw [frameEnd, frameEndIn, order, List.foldl_append, List.foldl_cons]
    rfl
  have start_echo : start.echo = s.echo := by simp [start]
  have start_reports : start.reports = s.reports := by simp [start]
  refine ⟨u, ?_, ?_, ?_, ?_, fun no_drop => ?_, ?_, fun quiet running l asked => ?_⟩
  · simp [u, start, frameEndQuiet_follower, Follower.frameEnd]
  · simp [u, start]
  · exact (foldl_frameEndAt_gate gate_before _).trans (by simp [start])
  · rw [ended, foldl_frameEndAt_gate gate_after]
  · have none_dropped : x.dropped = [] := by simpa [x, frameFacts, droppedNames] using no_drop
    rw [ended, foldl_frameEndAt_picked gate_after none_dropped, ← start_echo]
    exact ⟨foldl_frameEndAt_picked gate_before none_dropped _, rfl⟩
  · rw [ended, foldl_frameEndAt_item gate_after hafter, ← start_echo]
    have item := foldl_frameEndAt_item (x := x) gate_before hbefore start
    by_cases first : FrameTaker.echo ∈ before
    · have late : FrameTaker.echo ∉ after := fun h => apart _ first _ (List.mem_cons_of_mem _ h) rfl
      exact .inr ⟨item.trans (if_pos first), if_neg late⟩
    · have later : FrameTaker.echo ∈ after := by simpa [first] using echo
      exact .inl ⟨item.trans (if_neg first), if_pos later⟩
  · have resumed : x.resumedAt = none := by simp [x, frameFacts, running]
    have quiet : QuietBesideGate start := ⟨by simpa [start] using quiet.off, by simpa [start] using quiet.ring⟩
    obtain ⟨same, off, ring⟩ := foldl_frameEndAt_quiet gate_before resumed quiet
    have asked_quiet : QuietBesideGate (gateFrameEnd u) :=
      ⟨by simpa using off, asked ▸ (reportsAsked_shadow l u).trans ring⟩
    rw [ended, (foldl_frameEndAt_quiet gate_after resumed asked_quiet).1, asked]
    exact reportsAsked_congr l (same.trans start_reports)

section
variable {s u t : State} (h : GateTurn s u t)
include h

/-- R176: a turn that asks for no item echo leaves it its frame end. -/
theorem GateTurn.item_of_unasked (unasked : (gateFrameEnd u).echo.item = u.echo.item) :
    t.echo.item = echoOneFrameOn s.echo.item := by
  obtain ⟨before, after⟩ | ⟨before, after⟩ := h.item
  · rw [after, unasked, before]
  · rw [after, unasked, before]

/-- R176: an item echo asked for has 8 frames left, or 7 when the Echo Unit takes the frame end later. -/
theorem GateTurn.item_of_asked {d : ItemDesc} (asked : (gateFrameEnd u).echo.item =
      some { textAddr := d.textAddr, start := d.start, length := d.length, frames := 8 }) :
    ∃ n, (n = 7 ∨ n = 8) ∧
      t.echo.item = some { textAddr := d.textAddr, start := d.start, length := d.length, frames := n } := by
  obtain ⟨_, after⟩ | ⟨_, after⟩ := h.item
  · exact ⟨7, .inl rfl, by rw [after, asked]; rfl⟩
  · exact ⟨8, .inr rfl, by rw [after, asked]⟩

end

/-! ### The RESTART's D_READ -/

/-- A RESTART's word is delivered as stored, and the text record is closed where the word is examined (R171, R179). -/
theorem deliver_of_restart {ctx : DecodeContext} {target : Addr} (order : ctx.order = .restart target)
    (first : ctx.operand = 0) (w : Word) (s : State) :
    ∃ text, deliver ctx w s = (w, s.setEcho { s.echo with text := text }) := by
  unfold deliver
  split_ifs
  · exact ⟨none, by simp only [deliverOrderWord, order]; rfl⟩
  · exact ⟨s.echo.text, rfl⟩

/-- A RESTART followed: its frame end is made, and its word delivered (R13, R15). -/
theorem carryDRead_of_restart {a target : Addr} {s : State} (x y : Coord) (follow : s.follower.follow = .following)
    (expected : s.follower.expected = some a) (idle : s.follower.inProgress = none)
    (order : decodeOrder (s.word a) = .restart target) :
    ∃ text, let f := frameEnd a ((arrayRead a (presentBeam x y s)).setFollower
        { s.follower.emptied with expected := some target })
      carryDRead a x y s = driveBD (s.word a) (f.setEcho { f.echo with text := text }) := by
  let r := arrayRead a (presentBeam x y s)
  have fetched : followFetch a (s.word a) r = (followRestart a target r, orderContext a (.restart target) r) := by
    simp [followFetch, r, follow, expected, idle, fetchOrderWord, order]
  have unjudged : judged (orderContext a (.restart target) r) (followRestart a target r) = false := by
    simp [judged, orderContext]
  obtain ⟨text, delivered⟩ := deliver_of_restart (ctx := orderContext a (.restart target) r) rfl rfl (s.word a)
    (followRestart a target r)
  refine ⟨text, ?_⟩
  simp only [r] at fetched unjudged delivered
  simp only [carryDRead, fetched, unjudged, delivered]
  rfl

/-- A RESTART fetched in its turn ends a frame, and the Gate Unit takes its turn in it. -/
theorem exec_dRead_of_restart {a target : Addr} {s : State} (h : AtRestart a target s) (x y : Coord) :
    ∃ t u, exec (.dRead a x y) s = .next t ∧ GateTurn s u t := by
  obtain ⟨granted, follow, expected, idle, order⟩ := h
  let v := (breakLock (.dRead a x y) s).setPassage
    { (breakLock (.dRead a x y) s).passage with fairShare := countAfterPassing s }
  have carried : present (.dRead a x y) s = hold [] (carryDRead a x y v) := granted.present_carried nofun
  obtain ⟨text, ended⟩ := carryDRead_of_restart (s := v) x y follow expected idle order
  obtain ⟨u, turn⟩ := gateTurn_frameEnd a ((arrayRead a (presentBeam x y v)).setFollower
    { v.follower.emptied with expected := some target })
  refine ⟨_, u, congrArg Host.Outcome.next carried, ?_⟩
  rw [ended]
  exact ⟨turn.frame, turn.time, turn.found, turn.gate, turn.picked, turn.item,
    fun quiet running l asked =>
      (turn.reports ⟨quiet.off, quiet.ring⟩ running l asked).trans (reportsAsked_congr l rfl)⟩

end Sys2Proof.Machine
end

section
/-! # A gate closed by its length, and a dwell reported (R107 to R111, R114, R115, R174, R176)

Both happen in the Gate Unit's turn at the frame end of a RESTART (`exec_dRead_of_restart`), and by the row of their
own, which acts on the count as it stands. -/

namespace Sys2Proof.Machine

/-! ### The rows -/

section
variable {s : State}

theorem exec_gateCloseByLength_of_reached {g : OpenGate} (hopen : s.gate.gate = some g) (settled : Settled s)
    (reached : g.comparedLength ≤ g.frameCount) : exec .gateCloseByLength s = .next (closeDeciding false s) := by
  have due : s.gate.gate.any (fun g => g.comparedLength ≤ g.frameCount) = true := by simpa [hopen] using reached
  have closed : exec .gateCloseByLength s = .next (closeByLength (meet s)) := congrArg Host.Outcome.next (if_pos due)
  rw [closed, meet_none settled.1 settled.2, closeByLength_of_reached hopen reached]

theorem exec_gateCloseByLength_of_below {g : OpenGate} (hopen : s.gate.gate = some g)
    (below : g.frameCount < g.comparedLength) : exec .gateCloseByLength s = .next s :=
  congrArg Host.Outcome.next (if_neg (by simpa [hopen] using below))

theorem exec_dwellReport_of_reached (settled : Settled s) (reached : s.gate.dwell.comparedDwell ≤ s.gate.dwell.count) :
    exec .dwellReport s = .next (dwellReport s) := by
  have reported : exec .dwellReport s = .next (dwellReport (meet s)) := congrArg Host.Outcome.next (if_pos reached)
  rw [reported, meet_none settled.1 settled.2]

theorem exec_dwellReport_of_below (below : s.gate.dwell.count < s.gate.dwell.comparedDwell) :
    exec .dwellReport s = .next s :=
  congrArg Host.Outcome.next (if_neg (Nat.not_le.2 below))

end

/-! ### The reports -/

theorem decisionReports_of_miss {stopped : Bool} {s : State} {g : OpenGate} (hopen : s.gate.gate = some g)
    (hw : tallyWinner g.openTime s.gate.tally = none) : decisionReports stopped s =
      [{ kind := .miss, flags := { stopped := stopped }, frame := s.follower.frameNo, stamp := s.time }] := by
  simp only [decisionReports, hopen, hw]

theorem decisionReports_of_winner {stopped : Bool} {s : State} {g : OpenGate} {w : TallyEntry}
    (hopen : s.gate.gate = some g) (hw : tallyWinner g.openTime s.gate.tally = some w) : decisionReports stopped s =
      [gateDecision g stopped w (tallyRunner g.openTime s.gate.tally w) s.follower.frameNo s.time] := by
  simp only [decisionReports, hopen, hw]

/-- The report of a dwell on an item (R110, R115). -/
def itemDwellReport (key : Key) (snap : Snapshot) (i : ItemDesc) (votes : Nat) (frame : FrameNo) (stamp : Time) :
    Report :=
  { kind := .item, frame := frame, stamp := stamp
    flags := { edited := snap.edited, locked := snap.locked, stale := snap.stale, dwell := true }
    side := snap.side, name := some key.name, item := key.item, orderAddr := some snap.orderAddr
    path := snap.path, loft := some (snap.loftA, snap.loftB)
    sample := some (snap.sampleX, snap.sampleY)
    itemSpan := some (i.start, if snap.stale then 0 else i.length)
    winnerVotes := votes }

theorem dwellPick_of_item {key : Key} {snap : Snapshot} {i : ItemDesc} (hitem : key.item.isSome = true)
    (hi : snap.item = some i) (s : State) :
    dwellPick key snap s = itemDwellReport key snap i s.gate.dwell.count s.follower.frameNo s.time := by
  simp [dwellPick, pickReport, newReport, itemDwellReport, hitem, hi]

/-! ### The two statements -/

/-- Settles O40: the turn at the frame end, and the row, close the gate with its decision. -/
theorem gateClosesByLength : Obligations.GateClosesByLength := by
  refine ⟨fun a target x y g s restart sound hopen reached => ?_, fun g s hopen settled => ⟨fun reached => ?_, ?_⟩⟩
  · intro nothingElse noDrop
    obtain ⟨t, u, hexec, turn⟩ := exec_dRead_of_restart restart x y
    obtain ⟨gate, tally, dwell, lastPick, echo, reports⟩ :=
      gateFrameEnd_of_reached (turn.found ▸ sound) (turn.found ▸ hopen) (turn.found ▸ reached)
    rw [turn.found] at lastPick echo
    rw [GateUnit.closed_of_open hopen] at lastPick
    have uopen : u.gate.gate = some g := turn.found ▸ hopen
    have asked (h : nothingElse) : t.reports = reportsAsked (decisionReports false u) s := by
      obtain ⟨off, running, ring⟩ := h
      exact turn.reports ⟨off, ring⟩ running _ reports
    rw [← turn.gate] at gate tally dwell lastPick
    refine ⟨t, hexec, gate, tally, dwell, fun empty => ?_, fun w hw => ?_⟩
    · have none_won : tallyWinner g.openTime s.gate.tally = none := empty ▸ rfl
      rw [EchoUnit.afterClose_of_miss hopen none_won] at echo
      rw [none_won] at lastPick
      refine ⟨lastPick, fun no_drop => ?_, fun h => ?_⟩
      · obtain ⟨before, after⟩ := turn.picked no_drop
        rw [after, echo, before]
      · rw [asked h, decisionReports_of_miss uopen (turn.found ▸ none_won), turn.frame, turn.time]
        rfl
    · rw [EchoUnit.afterClose_of_winner hopen hw] at echo
      rw [hw] at lastPick
      refine ⟨lastPick, fun h => ?_, fun no_drop unlocked segment => ?_, fun no_drop h => ?_, fun h => ?_,
        fun unlocked fresh k d hk hd => ?_⟩
      · rw [asked h, decisionReports_of_winner uopen (turn.found ▸ hw), turn.frame, turn.time, turn.found]
        rfl
      · rw [(turn.picked no_drop).2, echo, EchoUnit.afterPick_of_segment unlocked segment]
      · obtain ⟨before, after⟩ := turn.picked no_drop
        rw [after, echo, EchoUnit.afterPick_picked_of_unasked h, before]
      · exact turn.item_of_unasked (by rw [echo, EchoUnit.afterPick_item_of_unasked h])
      · refine turn.item_of_asked ?_
        rw [echo, EchoUnit.afterPick_of_item unlocked hk hd, fresh]
        rfl
  · obtain ⟨gate, echo, reports⟩ := closeDeciding_spec false s
    rw [GateUnit.closed_of_open hopen] at gate
    refine ⟨_, exec_gateCloseByLength_of_reached hopen settled reached, congrArg (·.gate) gate,
      congrArg (·.tally) gate, congrArg (·.dwell) gate, fun empty => ?_, fun w hw => ?_⟩
    · have none_won : tallyWinner g.openTime s.gate.tally = none := empty ▸ rfl
      simp only [closeDeciding, hopen, decideGate, none_won, closeGate, requestReport_frame]
      rfl
    · rw [hw] at gate
      rw [EchoUnit.afterClose_of_winner hopen hw] at echo
      rw [decisionReports_of_winner hopen hw] at reports
      refine ⟨congrArg (·.lastPick) gate, reports, fun unlocked segment => ?_, fun unlocked k d hk hd => ?_,
        fun locked => ?_⟩
      · rw [echo, EchoUnit.afterPick_of_segment unlocked segment]
      · rw [echo, EchoUnit.afterPick_of_item unlocked hk hd]
      · rw [echo, EchoUnit.afterPick_of_locked locked]
  · exact exec_gateCloseByLength_of_below hopen

/-- Settles O41: the turn at the frame end, and the row, report the dwell once and spend its key. -/
theorem dwellIsReportedOnce : Obligations.DwellIsReportedOnce := by
  refine ⟨fun a target x y key snap i s restart closed hkey hitem hsnap hi unspent won reached => ?_,
    fun key snap i s settled closed hkey hitem hsnap hi unspent => ⟨fun reached => ?_, exec_dwellReport_of_below⟩⟩
  · obtain ⟨t, u, hexec, turn⟩ := exec_dRead_of_restart restart x y
    rw [← turn.found] at closed hkey hsnap unspent won reached
    obtain ⟨dwell, lastPick, echo, reports⟩ := gateFrameEnd_of_dwell closed hkey hsnap unspent won reached
    rw [← turn.gate] at dwell lastPick
    rw [turn.found] at dwell
    refine ⟨t, hexec, dwell, lastPick, fun off running ring => ?_, fun h => ?_, fun unlocked fresh => ?_⟩
    · rw [turn.reports ⟨off, ring⟩ running _ reports, dwellPick_of_item hitem hi, turn.frame, turn.time, turn.found]
      rfl
    · exact turn.item_of_unasked (by rw [echo, EchoUnit.afterPick_item_of_unasked (or_assoc.1 (.inl h))])
    · obtain ⟨k, hk⟩ := Option.isSome_iff_exists.1 hitem
      refine turn.item_of_asked ?_
      rw [echo, EchoUnit.afterPick_of_item unlocked hk hi, fresh]
      rfl
  · obtain ⟨gate, echo, reports⟩ := dwellReport_of_due ⟨closed, hkey, hsnap, unspent, reached⟩
    rw [dwellPick_of_item hitem hi] at reports
    refine ⟨_, exec_dwellReport_of_reached settled reached, gate, reports, ?_, by simp, by simp, by simp⟩
    obtain ⟨k, hk⟩ := Option.isSome_iff_exists.1 hitem
    cases hlocked : snap.locked with
    | true => exact echo.trans (EchoUnit.afterPick_of_locked hlocked)
    | false =>
      rw [echo, EchoUnit.afterPick_of_item hlocked hk hi]
      cases snap.stale <;> rfl

end Sys2Proof.Machine
end

section
/-! # The staged transform's rounding and its bounds (R127 to R129)

A rounded quotient is the floor of the exact one, or, where that is no whole number, the next above it. Both the bound
of the scaling and that of the grid snap follow from how near such a quotient is. -/

namespace Sys2Proof.Machine

/-! ### The rounded quotient (R127) -/

section
variable {n q : Int} {d : Nat}

theorem roundDiv_of_exact (mode : Rounding) (h : n % d = 0) : roundDiv mode n d = n / d := if_pos h

theorem roundDiv_rm (h : n % d ≠ 0) : roundDiv .rm n d = n / d := if_neg h

theorem roundDiv_rp (h : n % d ≠ 0) : roundDiv .rp n d = n / d + 1 := if_neg h

theorem roundDiv_rz (h : n % d ≠ 0) : roundDiv .rz n d = if n < 0 then n / d + 1 else n / d := if_neg h

theorem roundDiv_rn (h : n % d ≠ 0) : roundDiv .rn n d =
    if 2 * (n % d) < d then n / d else if 2 * (n % d) > d then n / d + 1
    else if n < 0 then n / d else n / d + 1 := if_neg h

theorem ediv_emod_of_between (below : q * d < n) (above : n < (q + 1) * d) : n / d = q ∧ n % d = n - q * d := by
  have floor : n / d = q := Int.ediv_eq_iff_of_pos (by lia) |>.2 ⟨below.le, by lia⟩
  exact ⟨floor, by rw [Int.emod_def, floor, mul_comm]⟩

theorem roundDiv_eq_or (mode : Rounding) (n : Int) (d : Nat) :
    roundDiv mode n d = n / d ∨ n % d ≠ 0 ∧ roundDiv mode n d = n / d + 1 := by
  by_cases h : n % d = 0
  · exact .inl (roundDiv_of_exact mode h)
  · cases mode with
    | rm => exact .inl (roundDiv_rm h)
    | rp => exact .inr ⟨h, roundDiv_rp h⟩
    | rz => rw [roundDiv_rz h]; split_ifs <;> simp [h]
    | rn => rw [roundDiv_rn h]; split_ifs <;> simp [h]

/-- A rounded quotient is less than one away from the exact one. -/
theorem roundDiv_near (mode : Rounding) (n : Int) (hd : 0 < d) :
    (roundDiv mode n d - 1) * d < n ∧ n < (roundDiv mode n d + 1) * d := by
  have whole := Int.emod_add_mul_ediv n d
  have rest := Int.emod_nonneg n (show (d : Int) ≠ 0 by lia)
  have restLt := Int.emod_lt_of_pos n (show (0 : Int) < d by lia)
  rcases roundDiv_eq_or mode n d with h | ⟨inexact, h⟩ <;> rw [h] <;> constructor <;> lia

end

/-- Settles O48: the floor and the remainder of a quotient between two whole numbers, in each mode. -/
theorem roundingModes : Obligations.RoundingModes := by
  refine ⟨fun n d hd => ⟨fun q mode exact => ?_, fun q below above => ?_⟩, fun v mode offset origin x =>
    ⟨rfl, fun grid => if_neg grid, rfl⟩⟩
  · have hd : (d : Int) ≠ 0 := Int.natCast_ne_zero.2 hd.ne'
    rw [exact, roundDiv_of_exact mode (Int.mul_emod_left q d), Int.mul_ediv_cancel q hd]
  · obtain ⟨floor, rest⟩ := ediv_emod_of_between below above
    have inexact : n % d ≠ 0 := by omega
    rw [roundDiv_rm inexact, roundDiv_rp inexact, roundDiv_rz inexact, roundDiv_rn inexact, floor, rest]
    refine ⟨rfl, rfl, rfl, fun lower => if_pos lower, fun upper => ?_, fun half => ?_⟩
    · rw [if_neg upper.not_gt, if_pos upper]
    · rw [if_neg half.not_lt, if_neg half.not_gt]

/-! ### The bounds of the stages (R128, R129) -/

/-- A rounded quotient lies within a whole number that bounds the exact one. -/
theorem abs_roundDiv_le (mode : Rounding) {n B : Int} {d : Nat} (hd : 0 < d) (h : |n| ≤ B * d) :
    |roundDiv mode n d| ≤ B := by
  obtain ⟨low, high⟩ := roundDiv_near mode n hd
  obtain ⟨hl, hu⟩ := abs_le.1 h
  have hd : (0 : Int) < d := Int.natCast_pos.2 hd
  have upper : roundDiv mode n d - 1 < B := lt_of_mul_lt_mul_right (low.trans_le hu) hd.le
  have lower : -B < roundDiv mode n d + 1 := lt_of_mul_lt_mul_right (by lia) hd.le
  exact abs_le.2 ⟨by lia, by lia⟩

section
variable {v : ViewSettings} (h : ViewSettingsSound v)
include h

theorem abs_offsetA_le (sx : Coord) : |(offsetA v sx).1| ≤ 767 := by
  obtain ⟨low, high⟩ := h.centreline
  have := sx.isLt
  unfold offsetA
  split
  · exact abs_le.2 ⟨by lia, by lia⟩
  · exact abs_le.2 ⟨by lia, by lia⟩
  · split_ifs <;> exact abs_le.2 ⟨by lia, by lia⟩

theorem abs_mul_scale_le {offset B : Int} (hb : |offset| ≤ B) : |offset * v.scale| ≤ B * 65535 := by
  obtain ⟨low, high⟩ := h.scale
  rw [abs_mul, Nat.abs_cast]
  exact mul_le_mul hb (by lia) (by lia) ((abs_nonneg _).trans hb)

theorem abs_roundDiv_scale_le {offset : Int} (hb : |offset| ≤ 767) :
    |roundDiv v.rounding (offset * v.scale) 256| ≤ 196350 :=
  abs_roundDiv_le _ (by decide) ((abs_mul_scale_le h hb).trans (by decide))

theorem abs_scaled_le {offset origin : Int} (hb : |offset| ≤ 767) (ho : -999999 ≤ origin ∧ origin ≤ 999999) :
    |scaled v offset origin| ≤ 1196349 :=
  (abs_add_le _ _).trans (add_le_add (abs_le.2 ho) (abs_roundDiv_scale_le h hb))

/-- The grid snap moves a value by less than one mesh. -/
theorem abs_snapped_le {x B : Int} (hb : |x| ≤ B) : |snapped v x| ≤ B + 9998 := by
  have mesh := h.grid
  obtain ⟨hl, hu⟩ := abs_le.1 hb
  unfold snapped
  split_ifs with off
  · exact hb.trans (by lia)
  · obtain ⟨low, high⟩ := roundDiv_near v.rounding x (Nat.pos_of_ne_zero off)
    exact abs_le.2 ⟨by lia, by lia⟩

end

theorem abs_offsetB_le (sy : Coord) : |(sy.toNat : Int) - 512| ≤ 512 := by
  have := sy.isLt
  exact abs_le.2 ⟨by lia, by lia⟩

/-- A value of the report's 24-bit field reads back as it is (R128). -/
theorem toInt_ofInt_of_abs_le {x : Int} (h : |x| ≤ 1206347) : (BitVec.ofInt 24 x).toInt = x := by
  obtain ⟨low, high⟩ := abs_le.1 h
  exact BitVec.toInt_ofInt_eq_self (by decide) (by lia) (by lia)

/-- Settles O49: the bounds of the offset, of the product, of the sum and of the snap, one from the other. -/
theorem loftValuesStayInRange : Obligations.LoftValuesStayInRange := by
  intro v sx sy h
  have offsetB : |(sy.toNat : Int) - 512| ≤ 767 := (abs_offsetB_le sy).trans (by decide)
  have sumA := abs_scaled_le h (abs_offsetA_le h sx) h.originA
  have sumB := abs_scaled_le h offsetB h.originB
  have loftA : |(convert v sx sy).loftA| ≤ 1206347 := abs_snapped_le h sumA
  have loftB : |(convert v sx sy).loftB| ≤ 1206347 := abs_snapped_le h sumB
  exact ⟨abs_mul_scale_le h (abs_offsetA_le h sx), abs_mul_scale_le h (abs_offsetB_le sy),
    abs_roundDiv_scale_le h (abs_offsetA_le h sx), sumA, sumB, loftA, loftB, toInt_ofInt_of_abs_le loftA,
    toInt_ofInt_of_abs_le loftB⟩

end Sys2Proof.Machine
end

section
/-! # The characters of a readout (R130, R134 to R137)

Of the digits of a magnitude, the one `k` places before the last is the quotient by `10 ^ k` modulo 10, which is how
`linearEntry` and `stationEntry` reckon it. -/

namespace Sys2Proof.Machine

/-! ### The station form (R130) -/

section
variable {v : ViewSettings} (h : ViewSettingsSound v)
include h

theorem spacing_pos : (0 : Int) < v.spacing := by
  obtain ⟨low, high⟩ := h.spacing
  lia

omit h in
theorem stationOffset_eq_emod (a : Int) : stationOffset v a = (a - v.frameZero) % v.spacing := by
  rw [Int.emod_def, mul_comm]
  rfl

theorem stationOffset_mem (a : Int) : 0 ≤ stationOffset v a ∧ stationOffset v a < v.spacing := by
  rw [stationOffset_eq_emod]
  exact ⟨Int.emod_nonneg _ (spacing_pos h).ne', Int.emod_lt_of_pos _ (spacing_pos h)⟩

/-- The farthest value lies 2,206,346 from frame zero, and the spacing is 100 at the least. -/
theorem stationFrame_mem {a : Int} (ha : |a| ≤ 1206347) : -22064 ≤ stationFrame v a ∧ stationFrame v a ≤ 22063 := by
  obtain ⟨low, high⟩ := abs_le.1 ha
  obtain ⟨zeroLow, zeroHigh⟩ := h.frameZero
  obtain ⟨spaced, -⟩ := h.spacing
  exact ⟨Int.le_ediv_of_mul_le (spacing_pos h) (by lia),
    Int.le_of_lt_add_one (Int.ediv_lt_of_lt_mul (spacing_pos h) (by lia))⟩

end

theorem stationOverflows_iff {v : ViewSettings} {p : ReadoutPart} {pt : LoftPoint} {n : Nat} :
    stationOverflows v p pt n = true ↔ p.axis = .b ∨ pt.side ≠ .none ∨ n < 9 ∨
      stationFrame v pt.loftA < -999 ∨ 999 < stationFrame v pt.loftA := by
  have far : 999 < (stationFrame v pt.loftA).natAbs ↔
      stationFrame v pt.loftA < -999 ∨ 999 < stationFrame v pt.loftA := by lia
  simp [stationOverflows, far, or_assoc]

/-- The nine characters of a STATION readout, and none after them. -/
theorem stationEntry_eq (f o : Int) (i : Nat) : stationEntry f o i =
    [signGlyph f, digitGlyph (decimalDigit f.natAbs 2), digitGlyph (decimalDigit f.natAbs 1),
      digitGlyph (decimalDigit f.natAbs 0), 0x2B#7, digitGlyph (decimalDigit o.natAbs 3),
      digitGlyph (decimalDigit o.natAbs 2), digitGlyph (decimalDigit o.natAbs 1),
      digitGlyph (decimalDigit o.natAbs 0)][i]? :=
  match i with
  | 0 | 1 | 2 | 3 | 4 | 5 | 6 | 7 | 8 => rfl
  | i + 9 => by simp [stationEntry]

/-- Settles O50: quotient and remainder by the spacing, and the readout by its nine characters. -/
theorem stationFormIsExact : Obligations.StationFormIsExact := by
  refine ⟨fun v a h => ⟨?_, (stationOffset_mem h a).1, (stationOffset_mem h a).2, stationFrame_mem h⟩,
    fun v p pt n i h form _ => ⟨fun overflow => ?_, fun axis side room low high => ?_⟩⟩
  · rw [stationOffset]
    ring
  · simp only [readoutEntry, form, stationOverflows_iff.2 overflow, if_true]
  · have shown : ¬ stationOverflows v p pt n = true := by
      rw [stationOverflows_iff, axis, side]
      lia
    have nonneg := (stationOffset_mem h pt.loftA).1
    have offset : (stationOffset v pt.loftA).natAbs = (stationOffset v pt.loftA).toNat := by lia
    simp only [readoutEntry, form, shown, stationEntry_eq, offset]
    simp [signGlyph, digitGlyph, decimalDigit]

/-! ### The LINEAR readout (R135, R136) -/

/-- The decimal digits of a value's magnitude, the most significant first; 0 takes one. -/
def magnitudeDigits (v : Int) : List Nat := if v = 0 then [0] else (Nat.digits 10 v.natAbs).reverse

/-- The glyph of a position before the magnitude. -/
def fillGlyph : Fill → Glyph
  | .zero => 0x30#7
  | .blank => 0x20#7

theorem magnitudeDigits_length_pos (v : Int) : 1 ≤ (magnitudeDigits v).length := by
  unfold magnitudeDigits
  split_ifs with h
  · exact le_rfl
  · rw [List.length_reverse, Nat.one_le_iff_ne_zero, ne_eq, List.length_eq_zero_iff, Nat.digits_eq_nil_iff_eq_zero]
    lia

theorem magnitudeDigits_length_le_iff {v : Int} {d : Nat} (hd : 1 ≤ d) :
    (magnitudeDigits v).length ≤ d ↔ v.natAbs < 10 ^ d := by
  unfold magnitudeDigits
  split_ifs with h
  · simp [h, hd]
  · rw [List.length_reverse, Nat.digits_length_le_iff (by decide)]

/-- The digit `k` places before the last is the magnitude's decimal digit at `10 ^ k`. -/
theorem magnitudeDigits_getElem? {v : Int} {j k : Nat} (h : j + k + 1 = (magnitudeDigits v).length) :
    (magnitudeDigits v)[j]? = some (decimalDigit v.natAbs k) := by
  unfold magnitudeDigits at h ⊢
  split_ifs at h ⊢ with zero
  · obtain ⟨rfl, rfl⟩ : j = 0 ∧ k = 0 := by simpa using h
    simp [zero, decimalDigit]
  · rw [List.length_reverse] at h
    rw [List.getElem?_reverse (by lia), show (Nat.digits 10 v.natAbs).length - 1 - j = k by lia,
      List.getElem?_eq_getElem (by lia), ← List.getD_eq_getElem _ 0, Nat.getD_digits _ _ (by decide)]
    rfl

section
variable {p : ReadoutPart} {v : Int} {n i : Nat}

theorem linearEntry_sign : linearEntry p v n 0 = some (signGlyph v) := rfl

theorem linearEntry_of_beyond (h : digitPositions p n < i) : linearEntry p v n i = none := by
  rw [linearEntry, if_neg (by lia), if_pos h]

variable (first : 1 ≤ i) (last : i ≤ digitPositions p n)
include first last

theorem linearEntry_of_overflow (h : 10 ^ digitPositions p n ≤ v.natAbs) :
    linearEntry p v n i = some p.overflowMark := by
  rw [linearEntry, if_neg (by lia), if_neg last.not_gt, if_pos h]

theorem linearEntry_of_fill (fits : v.natAbs < 10 ^ digitPositions p n)
    (h : i < digitPositions p n ∧ v.natAbs < 10 ^ (digitPositions p n - i)) :
    linearEntry p v n i = some (fillGlyph p.fill) := by
  rw [linearEntry, if_neg (by lia), if_neg last.not_gt, if_neg fits.not_ge, if_pos h]
  rfl

theorem linearEntry_of_digit (fits : v.natAbs < 10 ^ digitPositions p n)
    (h : ¬(i < digitPositions p n ∧ v.natAbs < 10 ^ (digitPositions p n - i))) :
    linearEntry p v n i = some (digitGlyph (decimalDigit v.natAbs (digitPositions p n - i))) := by
  rw [linearEntry, if_neg (by lia), if_neg last.not_gt, if_neg fits.not_ge, if_neg h]

/-- A position is filled where the magnitude's digits begin after it. -/
theorem fill_iff : i < digitPositions p n ∧ v.natAbs < 10 ^ (digitPositions p n - i) ↔
    i - 1 < digitPositions p n - (magnitudeDigits v).length := by
  have := magnitudeDigits_length_pos v
  rcases last.lt_or_eq with h | h
  · rw [and_iff_right h, ← magnitudeDigits_length_le_iff (by lia)]
    lia
  · lia

/-- A magnitude that fits stands in the last positions, after fill. -/
theorem linearEntry_of_fits (fits : (magnitudeDigits v).length ≤ digitPositions p n) :
    linearEntry p v n i =
      (List.replicate (digitPositions p n - (magnitudeDigits v).length) (fillGlyph p.fill) ++
        (magnitudeDigits v).map digitGlyph)[i - 1]? := by
  have below := (magnitudeDigits_length_le_iff (first.trans last)).1 fits
  by_cases filled : i - 1 < digitPositions p n - (magnitudeDigits v).length
  · rw [linearEntry_of_fill first last below ((fill_iff first last).2 filled),
      List.getElem?_append_left (by simpa using filled), List.getElem?_replicate_of_lt filled]
  · rw [linearEntry_of_digit first last below (mt (fill_iff first last).1 filled),
      List.getElem?_append_right (by simpa using filled), List.getElem?_map, List.length_replicate,
      magnitudeDigits_getElem? (k := digitPositions p n - i) (by lia)]
    rfl

end

/-- Settles O51: each position by the branch of `linearEntry` that reckons it. -/
theorem linearReadoutShowsTheValue : Obligations.LinearReadoutShowsTheValue := by
  intro p v n _ _ d digits magnitude fill
  have length : magnitude.length = (magnitudeDigits v).length := List.length_map _
  rw [length]
  refine ⟨linearEntry_sign, fun i h => linearEntry_of_beyond h, fun _ fits i first last =>
    linearEntry_of_fits first last fits, fun wide i first last => ?_, fun room small => ?_⟩
  · have exceeds := mt (magnitudeDigits_length_le_iff (first.trans last)).2 wide.not_ge
    exact linearEntry_of_overflow first last (not_lt.1 exceeds)
  · have seven : (magnitudeDigits v).length ≤ 7 := (magnitudeDigits_length_le_iff (by decide)).2 (by lia)
    exact seven.trans room

end Sys2Proof.Machine
end

section
/-! # What the Echo Unit delivers (R132, R134, R159, R171, R172, R175, R177 to R180)

A word is altered in one of three ways: an ATTR's under the picked-segment echo, a MOVE's at the cross, a TEXT operand
word's under its text record. The Echo Unit reads nothing that the fetch of an ATTR or of a TEXT operand word changes,
so that the D_READ drives the word as it is delivered in the state before it. -/

namespace Sys2Proof.Machine

/-! ### Words by their fields (12.1) -/

section
variable (w : Word)

theorem opcode_withXY (x y : Coord) : (withXY w x y).extractLsb' 20 4 = w.extractLsb' 20 4 :=
  calc (bitsAt w 20 4 ++ x ++ y).extractLsb' 20 4
    _ = (bitsAt w 20 4 ++ x).extractLsb' 10 4 := BitVec.extractLsb'_append_eq_of_le (w := 10) (by decide)
    _ = bitsAt w 20 4 := BitVec.extractLsb'_append_eq_left

variable (b : Bool) (i : BitVec 4)

theorem upper_withBlinkIntensity : (withBlinkIntensity w b i).extractLsb' 5 19 = w.extractLsb' 5 19 :=
  calc (bitsAt w 5 19 ++ BitVec.ofBool b ++ i).extractLsb' 5 19
    _ = (bitsAt w 5 19 ++ BitVec.ofBool b).extractLsb' 1 19 := BitVec.extractLsb'_append_eq_of_le (w := 4) (by decide)
    _ = bitsAt w 5 19 := BitVec.extractLsb'_append_eq_left

theorem blink_withBlinkIntensity : (withBlinkIntensity w b i).getLsbD 4 = b :=
  calc (bitsAt w 5 19 ++ BitVec.ofBool b ++ i).getLsbD 4
    _ = (bitsAt w 5 19 ++ BitVec.ofBool b).getLsbD 0 := BitVec.getLsbD_append (m := 4)
    _ = (BitVec.ofBool b).getLsbD 0 := BitVec.getLsbD_append (m := 1)
    _ = b := BitVec.getLsbD_ofBool b 0

theorem intensity_withBlinkIntensity : (withBlinkIntensity w b i).extractLsb' 0 4 = i :=
  BitVec.extractLsb'_append_eq_right (w' := 4)

omit b i in
theorem opcode_of_upper {v : Word} (h : v.extractLsb' 5 19 = w.extractLsb' 5 19) :
    v.extractLsb' 20 4 = w.extractLsb' 20 4 := by
  ext k hk
  have bit := congrArg (·.getLsbD (15 + k)) h
  simpa [BitVec.getLsbD_extractLsb', show 15 + k < 19 by lia, ← Nat.add_assoc] using bit

end

theorem charAt_makeTextWord (c : Nat → BitVec 8) {q : Nat} (hq : q < 3) :
    charAt (makeTextWord (c 0) (c 1) (c 2)) q = c q :=
  match q, hq with
  | 0, _ =>
    calc (c 0 ++ c 1 ++ c 2).extractLsb' 16 8
      _ = (c 0 ++ c 1).extractLsb' 8 8 := BitVec.extractLsb'_append_eq_of_le (w := 8) (by decide)
      _ = c 0 := BitVec.extractLsb'_append_eq_left
  | 1, _ =>
    calc (c 0 ++ c 1 ++ c 2).extractLsb' 8 8
      _ = (c 0 ++ c 1).extractLsb' 0 8 := BitVec.extractLsb'_append_eq_of_le (w := 8) (by decide)
      _ = c 1 := BitVec.extractLsb'_append_eq_right
  | 2, _ => BitVec.extractLsb'_append_eq_right (w' := 8)

@[simp] theorem glyphOf_makeChar (e : Bool) (g : Glyph) : glyphOf (makeChar e g) = g :=
  BitVec.extractLsb'_append_eq_right (w' := 7)

@[simp] theorem emphasisOf_makeChar (e : Bool) (g : Glyph) : emphasisOf (makeChar e g) = e :=
  (BitVec.getLsbD_append (m := 7)).trans (BitVec.getLsbD_ofBool e 0)

theorem emphasisOf_charAt (w : Word) (q : Nat) : emphasisOf (charAt w q) = w.getLsbD (16 - 8 * q + 7) :=
  (BitVec.getLsbD_extractLsb' ..).trans (Bool.true_and _)

/-! ### The delivered word, case by case (R171) -/

section
variable {c : DecodeContext} {w : Word} {s : State}

theorem examined_iff : examined c s = true ↔ c.followed = true ∧ s.follower.display = .running := by
  simp [examined]

theorem deliver_of_unexamined (h : c.followed = false ∨ s.follower.display = .stopped) : deliver c w s = (w, s) := by
  refine if_neg (mt examined_iff.1 fun ⟨followed, running⟩ => ?_)
  simp [followed, running] at h

theorem deliver_of_orderWord (followed : c.followed = true) (running : s.follower.display = .running)
    (first : c.operand = 0) : deliver c w s = deliverOrderWord c w s := by
  rw [deliver, if_pos (examined_iff.2 ⟨followed, running⟩), if_pos first]

theorem deliver_of_textOperand {size : BitVec 2} {n : Nat} (followed : c.followed = true)
    (running : s.follower.display = .running) (operand : c.operand ≠ 0) (order : c.order = .text size n) :
    deliver c w s = deliverOperand c w s := by
  rw [deliver, if_pos (examined_iff.2 ⟨followed, running⟩), if_neg operand]
  simp only [order]

theorem deliverOrderWord_attr (order : c.order = .attr) : (deliverOrderWord c w s).1 = deliverAttr c w s := by
  simp only [deliverOrderWord, order]

theorem deliverOrderWord_move {x y : Coord} (order : c.order = .move x y) :
    (deliverOrderWord c w s).1 = deliverMove c w s := by
  simp only [deliverOrderWord, order]

theorem deliverOperand_of_no_record (h : ∀ t, s.echo.text = some t → t.addr ≠ c.addr) :
    deliverOperand c w s = (w, s) := by
  unfold deliverOperand
  split
  · rfl
  · exact if_pos (h _ ‹_›)

section
variable {t : TextRecord} (record : s.echo.text = some t) (addr : t.addr = c.addr)
include record addr

theorem deliverOperand_of_plain (plain : t.readout = false) :
    deliverOperand c w s = (deliverText t (3 * (c.operand - 1)) w (fun _ => none) s, s) := by
  simp [deliverOperand, record, addr, plain]

theorem deliverOperand_of_readout (readout : t.readout = true) :
    let r := readoutAnswer t (3 * (c.operand - 1)) s
    deliverOperand c w s = (deliverText t (3 * (c.operand - 1)) w (fun i => (r.entries[i]?).join) s,
      s.setLoft { s.loft with readout := some r }) := by
  simp [deliverOperand, record, addr, readout]

end

theorem deliverOperand_word_or : (deliverOperand c w s).1 = w ∨
    ∃ t j answer, (deliverOperand c w s).1 = deliverText t j w answer s := by
  by_cases absent : ∀ t, s.echo.text = some t → t.addr ≠ c.addr
  · exact .inl (by rw [deliverOperand_of_no_record absent])
  · push Not at absent
    obtain ⟨t, record, addr⟩ := absent
    cases readout : t.readout with
    | false => exact .inr ⟨t, _, _, by rw [deliverOperand_of_plain record addr readout]⟩
    | true => exact .inr ⟨t, _, _, by rw [deliverOperand_of_readout record addr readout]⟩

/-- How a delivered word comes about: as stored, or as one of the three kinds of altered word. -/
theorem deliver_word_cases (c : DecodeContext) (w : Word) (s : State) :
    (deliver c w s).1 = w ∨
    (c.operand = 0 ∧ c.order = .attr ∧ (deliver c w s).1 = deliverAttr c w s) ∨
    (c.operand = 0 ∧ (∃ x y, c.order = .move x y) ∧ (deliver c w s).1 = deliverMove c w s) ∨
    (c.operand ≠ 0 ∧ (∃ size n, c.order = .text size n) ∧
      ∃ t j answer, (deliver c w s).1 = deliverText t j w answer s) := by
  unfold deliver
  split_ifs with h first
  · cases order : c.order with
    | attr => exact .inr (.inl ⟨first, rfl, deliverOrderWord_attr order⟩)
    | move x y => exact .inr (.inr (.inl ⟨first, ⟨x, y, rfl⟩, deliverOrderWord_move order⟩))
    | _ => exact .inl (by simp only [deliverOrderWord, order])
  · cases order : c.order with
    | text size n =>
      exact deliverOperand_word_or.imp_right fun altered => .inr (.inr ⟨first, ⟨size, n, rfl⟩, altered⟩)
    | _ => exact .inl rfl
  · exact .inl rfl

/-! ### An ATTR and a MOVE (R175, R178) -/

theorem deliverAttr_of_picked (picked : s.echo.picked = some c.name) :
    let a := attributesOf s c.name
    deliverAttr c w s = withBlinkIntensity w (w.getLsbD 4 || a.highlight == .blink)
      (highlightIntensity a.highlight a.boost (w.extractLsb' 0 4)) := if_pos picked

theorem deliverAttr_of_unpicked (unpicked : s.echo.picked ≠ some c.name) : deliverAttr c w s = w := if_neg unpicked

theorem upper_deliverAttr : (deliverAttr c w s).extractLsb' 5 19 = w.extractLsb' 5 19 := by
  by_cases picked : s.echo.picked = some c.name
  · rw [deliverAttr_of_picked picked, upper_withBlinkIntensity]
  · rw [deliverAttr_of_unpicked picked]

theorem toNat_highlightIntensity (h : Highlight) (boost : Nat) (i : BitVec 4) :
    (highlightIntensity h boost i).toNat =
      match h with
      | .none | .blink => i.toNat
      | .bright => min 15 (i.toNat + boost)
      | .dim => max 1 (i.toNat - boost) := by
  have := i.isLt
  cases h with
  | none | blink => rfl
  | bright => exact Nat.mod_eq_of_lt (by lia)
  | dim => exact Nat.mod_eq_of_lt (by lia)

theorem deliverMove_eq : deliverMove c w s =
    if s.tracker.state ≠ .off ∧ s.tracker.cross.map (·.addr) = some c.addr ∧
      c.name = s.tracker.active.crossName then withXY w s.tracker.tx s.tracker.ty else w := by
  unfold deliverMove
  congr 1
  cases s.tracker.cross <;> simp [Tracker.runs, and_assoc]

theorem opcode_deliverMove : (deliverMove c w s).extractLsb' 20 4 = w.extractLsb' 20 4 := by
  unfold deliverMove
  split_ifs
  · exact opcode_withXY ..
  · rfl

/-! ### A TEXT operand word (R132, R134, R172, R177, R180) -/

/-- An index within the count and within the hovered or the echoed item (R177). -/
def UnderEmphasis (t : TextRecord) (k : Nat) (s : State) : Prop :=
  k < t.count ∧
    ((∃ h, s.gate.hover = some h ∧ h.item.textAddr = t.addr ∧
        h.item.start ≤ k ∧ k < h.item.start + h.item.length) ∨
      (∃ e, s.echo.item = some e ∧ e.textAddr = t.addr ∧ e.start ≤ k ∧ k < e.start + e.length))

theorem emphasised_iff {t : TextRecord} {k : Nat} : emphasised t k s = true ↔ UnderEmphasis t k s := by
  simp [UnderEmphasis, emphasised, withinItem, Option.any_eq_true]

section
variable {t : TextRecord} {j q : Nat} {answer : Nat → Option Glyph} (hq : q < 3)
include hq

theorem charAt_deliverText :
    charAt (deliverText t j w answer s) q = deliverChar t (j + q) (charAt w q) (answer (j + q)) s :=
  charAt_makeTextWord (fun q => deliverChar t (j + q) (charAt w q) (answer (j + q)) s) hq

theorem glyph_deliverText : (charAt (deliverText t j w answer s) q).extractLsb' 0 7 =
    (answer (j + q)).getD ((charAt w q).extractLsb' 0 7) := by
  rw [charAt_deliverText hq, deliverChar]
  exact glyphOf_makeChar ..

theorem emphasisOf_deliverText : emphasisOf (charAt (deliverText t j w answer s) q) =
    (emphasisOf (charAt w q) || emphasised t (j + q) s) := by
  rw [charAt_deliverText hq, deliverChar, emphasisOf_makeChar]

theorem emphasis_deliverText {inst : Decidable (UnderEmphasis t (j + q) s)} :
    (charAt (deliverText t j w answer s) q).getLsbD 7 =
      ((charAt w q).getLsbD 7 || decide (UnderEmphasis t (j + q) s)) := by
  have under : emphasised t (j + q) s = decide (UnderEmphasis t (j + q) s) := by
    rw [Bool.eq_iff_iff, emphasised_iff, decide_eq_true_iff]
  rw [← under]
  exact emphasisOf_deliverText hq

end

/-- R132: the string is formed of the value source's point, or holds "stored" where there is none, or no part. -/
theorem formReadout_getElem? (part : Option ReadoutPart) (a : Addr) {n k : Nat} (hk : k < n) :
    (formReadout part a n s).entries[k]? =
      some (part.bind fun p => (valueSource s).bind fun pt => readoutEntry s.loft.active p pt n k) := by
  simp only [formReadout, List.getElem?_map, List.getElem?_range hk]
  cases part <;> cases valueSource s <;> rfl

/-- The same, by the class of the text's name and the state of the run (R133, R134). -/
theorem formReadout_of_attributes (n : Name) (a : Addr) {count k : Nat} (hk : k < count) :
    (formReadout (attributesOf s n).classPart.readoutPart a count s).entries[k]? = some
      (match (attributesOf s n).classPart, s.tracker.state with
        | .readout p, .off => s.gate.lastPick.bind (fun l => readoutEntry s.loft.active p
            { loftA := l.loftA, loftB := l.loftB, side := l.side } count k)
        | .readout p, _ => readoutEntry s.loft.active p (convert s.loft.active s.tracker.tx s.tracker.ty) count k
        | _, _ => none) := by
  rw [formReadout_getElem? _ _ hk]
  cases (attributesOf s n).classPart with
  | draw | menu => rfl
  | readout p =>
    unfold valueSource
    cases s.tracker.state with
    | off => cases s.gate.lastPick <;> rfl
    | tracking | lost => rfl

section
variable {part : Option ReadoutPart} {a : Addr} {n j : Nat}

theorem readoutFor_of_held {held : ReadoutString} (later : j ≠ 0) (h : s.loft.readout = some held)
    (addr : held.addr = a) (count : held.count = n) : readoutFor part a n j s = held := by
  simp [readoutFor, h, later, addr, count]

theorem readoutFor_of_unheld
    (h : j = 0 ∨ ∀ held, s.loft.readout = some held → held.addr ≠ a ∨ held.count ≠ n) :
    readoutFor part a n j s = formReadout part a n s := by
  unfold readoutFor
  split
  · refine if_neg fun ⟨later, addr, count⟩ => ?_
    rcases h with first | unheld
    · exact later first
    · exact (unheld _ ‹_›).elim (· addr) (· count)
  · rfl

end

end

/-! ### The D_READ (R159) -/

/-- Alike in everything that the Echo Unit reads. -/
structure SameToEcho (s u : State) : Prop where
  display : u.follower.display = s.follower.display
  segments : u.segments = s.segments
  gate : u.gate = s.gate
  loft : u.loft = s.loft
  tracker : u.tracker = s.tracker
  echo : u.echo = s.echo

theorem SameToEcho.trans {s u v : State} (h : SameToEcho s u) (g : SameToEcho u v) : SameToEcho s v :=
  ⟨g.display.trans h.display, g.segments.trans h.segments, g.gate.trans h.gate, g.loft.trans h.loft,
    g.tracker.trans h.tracker, g.echo.trans h.echo⟩

section
variable {s u : State} (h : SameToEcho s u)
include h

theorem attributesOf_congr (n : Name) : attributesOf u n = attributesOf s n := by
  rw [attributesOf, attributesOf, h.segments]

theorem emphasised_congr (t : TextRecord) (i : Nat) : emphasised t i u = emphasised t i s := by
  rw [emphasised, emphasised, h.gate, h.echo]

theorem readoutAnswer_congr (t : TextRecord) (j : Nat) : readoutAnswer t j u = readoutAnswer t j s := by
  simp only [readoutAnswer, readoutFor, formReadout, valueSource, attributesOf_congr h, h.gate, h.loft, h.tracker]

theorem deliverText_congr (t : TextRecord) (j : Nat) (w : Word) (answer : Nat → Option Glyph) :
    deliverText t j w answer u = deliverText t j w answer s := by
  simp only [deliverText, deliverChar, emphasised_congr h]

variable (c : DecodeContext) (w : Word)

theorem deliverOrderWord_congr : (deliverOrderWord c w u).1 = (deliverOrderWord c w s).1 := by
  unfold deliverOrderWord
  cases c.order <;> simp only [deliverAttr, deliverMove, attributesOf_congr h, h.tracker, h.echo]

theorem deliverOperand_congr : (deliverOperand c w u).1 = (deliverOperand c w s).1 ∧
    (deliverOperand c w u).2.loft = (deliverOperand c w s).2.loft := by
  simp only [deliverOperand, readoutAnswer_congr h, deliverText_congr h, h.echo]
  cases s.echo.text with
  | none => exact ⟨rfl, h.loft⟩
  | some t => dsimp only; split_ifs <;> simp [h.loft]

/-- What the Echo Unit delivers, and the readout string it leaves, depend on what it reads alone. -/
theorem deliver_congr : (deliver c w u).1 = (deliver c w s).1 ∧ (deliver c w u).2.loft = (deliver c w s).2.loft := by
  have examined : examined c u = examined c s := by rw [examined, examined, h.display]
  unfold deliver
  rw [examined]
  split_ifs
  · exact ⟨deliverOrderWord_congr h c w, by simp [h.loft]⟩
  · split
    · exact deliverOperand_congr h c w
    · exact ⟨rfl, h.loft⟩
  · exact ⟨rfl, h.loft⟩

end

theorem Follower.carryOut_display (f : Follower) (t : Transfer) (next : Addr) :
    (f.carryOut t next).display = f.display := by
  cases t <;> rfl

theorem sameToEcho_completeOrder {o : Order} (plain : ∀ e subtype payload, o ≠ .pass e subtype payload)
    (start : Addr) (ws : List Word) (last : Addr) (s : State) : SameToEcho s (completeOrder start o ws last s) := by
  have unapplied : applyOrder start o ws s = s := by
    unfold applyOrder
    split
    · exact absurd rfl (plain _ _ _)
    · rfl
  unfold completeOrder
  rw [unapplied]
  dsimp only
  split
  · exact ⟨Follower.carryOut_display .., rfl, rfl, rfl, rfl, rfl⟩
  · exact ⟨rfl, rfl, rfl, rfl, rfl, rfl⟩

theorem display_recordChars (p : InProgress) (s : State) :
    (recordChars p s).follower.display = s.follower.display := by
  unfold recordChars
  split <;> rfl

/-- The context of an operand word (R25). -/
def operandContext (p : InProgress) : DecodeContext :=
  { followed := true, addr := p.addr, order := p.order, operand := p.fetched, name := p.name, path := p.path }

section
variable {a : Addr} {w : Word} {s : State} (follow : s.follower.follow = .following)
  (expected : s.follower.expected = some a)
include follow expected

theorem followFetch_of_attr (idle : s.follower.inProgress = none) (order : decodeOrder w = .attr) :
    ∃ u, followFetch a w s = (u, orderContext a .attr s) ∧ SameToEcho s u := by
  have followed : followOrder a w .attr s = completeOrder a .attr [w] a s := by
    simp [followOrder, recordVisible, visibleKind, handOrderWord, Order.words]
  have plain : ∀ e subtype payload, Order.attr ≠ .pass e subtype payload := by simp
  refine ⟨_, ?_, sameToEcho_completeOrder plain a [w] a s⟩
  simp only [followFetch, follow, expected, idle, if_true]
  rw [fetchOrderWord, order, ← followed]
  rfl

theorem followFetch_of_textOperand {p : InProgress} {size : BitVec 2} {n : Nat}
    (opened : s.follower.inProgress = some p) (order : p.order = .text size n) :
    ∃ u, followFetch a w s = (u, operandContext p) ∧ SameToEcho s u := by
  have fetched : SameToEcho s (handOperand p w (recordChars p s)) := by
    constructor <;> simp [display_recordChars]
  have plain : ∀ e subtype payload, p.order ≠ .pass e subtype payload := by simp [order]
  simp only [followFetch, follow, expected, opened, if_true, fetchOperandWord]
  split_ifs
  · refine ⟨_, rfl, fetched.trans (.trans ?_ (sameToEcho_completeOrder plain ..))⟩
    exact ⟨rfl, rfl, rfl, rfl, rfl, rfl⟩
  · refine ⟨_, rfl, fetched.trans ?_⟩
    exact ⟨rfl, rfl, rfl, rfl, rfl, rfl⟩

end

/-- A granted D-read whose fetch changes nothing that the Echo Unit reads drives the word as it is delivered in the
state before it, and leaves the readout string of that delivery. -/
theorem carryDRead_of_fetched {a : Addr} {x y : Coord} {s u : State} {ctx : DecodeContext}
    (fetched : followFetch a (s.word a) (arrayRead a (presentBeam x y s)) = (u, ctx)) (same : SameToEcho s u) :
    (carryDRead a x y s).pins.bd = (deliver ctx (s.word a) s).1 ∧
    (carryDRead a x y s).loft = (deliver ctx (s.word a) s).2.loft := by
  obtain ⟨word, loft⟩ := deliver_congr same ctx (s.word a)
  simp only [carryDRead, fetched]
  refine ⟨word, ?_⟩
  split_ifs <;> exact loft

theorem exec_dRead_of_fetched {a : Addr} {x y : Coord} {s : State} {ctx : DecodeContext} (granted : PassingGranted s)
    (fetched : ∀ r : State, r.follower = s.follower →
      ∃ u, followFetch a (s.word a) r = (u, ctx) ∧ SameToEcho r u) :
    ∃ t, exec (.dRead a x y) s = .next t ∧ t.store = s.store ∧ t.pins.bd = (deliver ctx (s.word a) s).1 ∧
      t.loft = (deliver ctx (s.word a) s).2.loft := by
  let v := (breakLock (.dRead a x y) s).setPassage
    { (breakLock (.dRead a x y) s).passage with fairShare := countAfterPassing s }
  have before : SameToEcho s v := ⟨rfl, rfl, rfl, rfl, rfl, rfl⟩
  have atArray : SameToEcho v (arrayRead a (presentBeam x y v)) := ⟨rfl, rfl, rfl, rfl, rfl, rfl⟩
  obtain ⟨u, fetched, same⟩ := fetched (arrayRead a (presentBeam x y v)) rfl
  obtain ⟨bd, loft⟩ := carryDRead_of_fetched (s := v) fetched (atArray.trans same)
  obtain ⟨word, string⟩ := deliver_congr before ctx (s.word a)
  exact ⟨_, congrArg Host.Outcome.next (granted.present_carried nofun), (carryDRead_frame a x y v).2.1,
    bd.trans word, loft.trans string⟩

/-! ### The statement -/

/-- An emphasis bit that is stored set is delivered set (R172). -/
theorem emphasis_deliver (c : DecodeContext) (w : Word) (s : State) (operand : c.operand ≠ 0) {q : Nat} (hq : q < 3)
    (stored : emphasisOf (charAt w q) = true) : emphasisOf (charAt (deliver c w s).1 q) = true := by
  rcases deliver_word_cases c w s with h | ⟨first, -⟩ | ⟨first, -⟩ | ⟨-, -, t, j, answer, h⟩
  · rw [h, stored]
  · exact absurd first operand
  · exact absurd first operand
  · rw [h, emphasisOf_deliverText hq, stored, Bool.true_or]

theorem opcode_deliver (c : DecodeContext) (w : Word) (s : State) (first : c.operand = 0) :
    (deliver c w s).1.extractLsb' 20 4 = w.extractLsb' 20 4 := by
  rcases deliver_word_cases c w s with h | ⟨-, -, h⟩ | ⟨-, -, h⟩ | ⟨operand, -⟩
  · rw [h]
  · rw [h, opcode_of_upper w upper_deliverAttr]
  · rw [h, opcode_deliverMove]
  · exact absurd first operand

/-- An ATTR is delivered as the picked-segment echo has it, or as stored. -/
theorem deliver_attr_or {c : DecodeContext} (w : Word) (s : State) (first : c.operand = 0) (order : c.order = .attr) :
    (deliver c w s).1 = w ∨ (deliver c w s).1 = deliverAttr c w s := by
  rcases deliver_word_cases c w s with h | ⟨-, -, h⟩ | ⟨-, ⟨x, y, move⟩, -⟩ | ⟨operand, -⟩
  · exact .inl h
  · exact .inr h
  · rw [order] at move
    exact absurd move nofun
  · exact absurd first operand

/-- An order word other than an ATTR's and a MOVE's is delivered as stored. -/
theorem deliver_of_otherOrder {c : DecodeContext} (w : Word) (s : State) (first : c.operand = 0)
    (attr : c.order ≠ .attr) (move : ∀ x y, c.order ≠ .move x y) : (deliver c w s).1 = w := by
  rcases deliver_word_cases c w s with h | ⟨-, order, -⟩ | ⟨-, ⟨x, y, order⟩, -⟩ | ⟨operand, -⟩
  · exact h
  · exact absurd order attr
  · exact absurd order (move x y)
  · exact absurd first operand

/-- An operand word other than a TEXT's is delivered as stored. -/
theorem deliver_of_otherOperand {c : DecodeContext} (w : Word) (s : State) (operand : c.operand ≠ 0)
    (text : ∀ size n, c.order ≠ .text size n) : (deliver c w s).1 = w := by
  rcases deliver_word_cases c w s with h | ⟨first, -⟩ | ⟨first, -⟩ | ⟨-, ⟨size, n, order⟩, -⟩
  · exact h
  · exact absurd first operand
  · exact absurd first operand
  · exact absurd order (text size n)

/-- An operand word without a text record of its address alters nothing. -/
theorem deliver_of_no_record {c : DecodeContext} (w : Word) (s : State) (operand : c.operand ≠ 0)
    (h : ∀ t, s.echo.text = some t → t.addr ≠ c.addr) : deliver c w s = (w, s) := by
  unfold deliver
  rw [if_neg operand, deliverOperand_of_no_record h]
  split_ifs
  · split <;> rfl
  · rfl

/-- Settles O53: first the delivered word by its case, then the D_READ by what its fetch leaves alike. -/
theorem deliveryAltersOnlyItsFields : Obligations.DeliveryAltersOnlyItsFields := by
  refine ⟨fun c w s => ⟨deliver_of_unexamined, opcode_deliver c w s, fun first order => ?attr,
    deliver_of_otherOrder w s, deliver_of_otherOperand w s, fun operand => ?emphasis,
    fun followed running first order picked => ?picked, fun first order unpicked => ?unpicked,
    deliver_of_no_record w s, fun followed running first order => ?move,
    fun t size n followed running operand order record addr => ?text⟩,
    fun a x y s granted follow expected => ⟨fun idle order => ?attrRead, fun p size n opened order => ?textRead⟩⟩
  case attr =>
    rcases deliver_attr_or w s first order with h | h
    · rw [h]
    · rw [h, upper_deliverAttr]
  case emphasis =>
    have byte := fun {q} (hq : q < 3) => emphasis_deliver c w s operand hq
    simp only [emphasisOf_charAt] at byte
    simpa using ⟨byte (q := 2) (by decide), byte (q := 1) (by decide), byte (q := 0) (by decide)⟩
  case picked =>
    have altered : (deliver c w s).1 = deliverAttr c w s := by
      rw [deliver_of_orderWord followed running first, deliverOrderWord_attr order]
    rw [altered, deliverAttr_of_picked picked, intensity_withBlinkIntensity, toNat_highlightIntensity,
      blink_withBlinkIntensity]
    exact ⟨rfl, rfl⟩
  case unpicked =>
    exact (deliver_attr_or w s first order).elim id (·.trans (deliverAttr_of_unpicked unpicked))
  case move =>
    obtain ⟨x, y, order⟩ := order
    rw [deliver_of_orderWord followed running first, deliverOrderWord_move order, deliverMove_eq]
    rfl
  case text =>
    rw [deliver_of_textOperand followed running operand order]
    cases readout : t.readout with
    | false =>
      rw [deliverOperand_of_plain record addr readout]
      exact ⟨fun q hq => ⟨emphasis_deliverText (answer := fun _ => none) hq,
        fun _ => glyph_deliverText (answer := fun _ => none) hq⟩, fun _ => rfl, nofun⟩
    | true =>
      let answer : Nat → Option Glyph := fun i =>
        ((readoutAnswer t (3 * (c.operand - 1)) s).entries[i]?).join
      rw [deliverOperand_of_readout record addr readout]
      refine ⟨fun q hq => ⟨emphasis_deliverText (answer := answer) hq, nofun⟩, nofun, fun _ => ⟨_, rfl,
        fun q hq => glyph_deliverText (answer := answer) hq,
        fun held h later addr count => readoutFor_of_held (by lia) h addr count, fun unheld => ?_⟩⟩
      rw [readoutAnswer, readoutFor_of_unheld (unheld.imp_left fun first => by lia)]
      exact ⟨rfl, rfl, fun k hk => formReadout_of_attributes _ _ hk⟩
  case attrRead =>
    have fetched : ∀ r : State, r.follower = s.follower →
        ∃ u, followFetch a (s.word a) r = (u, orderContext a .attr s) ∧ SameToEcho r u := fun r same => by
      have context : orderContext a .attr r = orderContext a .attr s := by simp only [orderContext, same]
      rw [← context]
      exact followFetch_of_attr (same ▸ follow) (same ▸ expected) (same ▸ idle) order
    obtain ⟨t, next, store, bd, -⟩ := exec_dRead_of_fetched granted fetched
    exact ⟨t, next, store, bd⟩
  case textRead =>
    exact exec_dRead_of_fetched granted fun r same => followFetch_of_textOperand (same ▸ follow) (same ▸ expected)
      (same ▸ opened) order

end Sys2Proof.Machine
end

section
/-! # A cross strike (R148, R151, R154)

Taken during a run, a cross strike leaves a Tracking Unit that is a function of the unit it finds, TRACKING or LOST, and
asks for a report only where it reacquires. A lone one still to be taken at a tip-up finds the run, or the OFF state
that the end of the run leaves. -/

namespace Sys2Proof.Machine

/-! ### The position moved -/

/-- A coordinate clamped between an ordered pair is the nearest to `v`. -/
theorem toNat_clampCoord_eq {lo hi : Coord} (v : Int) (h : lo.toNat ≤ hi.toNat) :
    ((clampCoord lo hi v).toNat : Int) = max (lo.toNat : Int) (min (hi.toNat : Int) v) := by
  have ⟨_, _, between⟩ := clampCoord_spec v h
  by_cases below : v < lo.toNat
  · rw [clampCoord, if_pos below]
    omega
  · by_cases above : hi.toNat < v
    · rw [clampCoord, if_neg below, if_pos above]
      omega
    · rw [between (Int.not_lt.1 below) (Int.not_lt.1 above)]
      omega

section
variable {mode : Rounding} {b : TrackSettings} {tx ty x y : Coord}

/-- R148: X moves where its distance is the greater. -/
theorem filterStep_of_x (h : ((y.toNat : Int) - ty.toNat).natAbs < ((x.toNat : Int) - tx.toNat).natAbs) :
    filterStep mode b tx ty x y = (filtered mode b.gainShift b.xmin b.xmax tx ((x.toNat : Int) - tx.toNat), ty) :=
  if_pos h

/-- R148: Y moves where its distance is the greater, and on a tie. -/
theorem filterStep_of_y (h : ((x.toNat : Int) - tx.toNat).natAbs ≤ ((y.toNat : Int) - ty.toNat).natAbs) :
    filterStep mode b tx ty x y = (tx, filtered mode b.gainShift b.ymin b.ymax ty ((y.toNat : Int) - ty.toNat)) :=
  if_neg (Nat.not_lt.2 h)

end

/-! ### A cross strike taken -/

/-- The Tracking Unit once a cross strike has been taken during a run: the position moved, and a LOST run reacquired
and reported (R148). -/
def Tracker.struckAt (mode : Rounding) (x y : Coord) (t : Tracker) : Tracker :=
  let p := filterStep mode t.active t.tx t.ty x y
  { t with
    state := .tracking, tx := p.1, ty := p.2, crossStruck := true
    lossCount := if t.state = .lost then 0 else t.lossCount
    lastReported := if t.state = .lost then some p else t.lastReported }

section
variable {s : State} (x y : Coord)

/-- R148: a cross strike is discarded in OFF. -/
theorem trackCross_of_off (off : s.tracker.state = .off) : trackCross x y s = s := by
  simp [trackCross, Tracker.runs, off]

theorem trackCross_of_tracking (tracking : s.tracker.state = .tracking) :
    trackCross x y s = s.setTracker (s.tracker.struckAt s.loft.active.rounding x y) := by
  simp [trackCross, Tracker.runs, Tracker.struckAt, tracking]

theorem trackCross_of_lost (lost : s.tracker.state = .lost) : trackCross x y s =
    requestTrack true s.loft.active (s.setTracker
      { s.tracker.struckAt s.loft.active.rounding x y with lastReported := s.tracker.lastReported }) := by
  simp [trackCross, Tracker.runs, Tracker.struckAt, lost]
  rfl

theorem trackCross_tracker (running : s.tracker.state ≠ .off) :
    (trackCross x y s).tracker = s.tracker.struckAt s.loft.active.rounding x y := by
  cases state : s.tracker.state with
  | off => exact absurd state running
  | tracking => rw [trackCross_of_tracking x y state, State.setTracker_tracker]
  | lost =>
    rw [trackCross_of_lost x y state, requestTrack_tracker]
    simp [Tracker.struckAt, state]

/-- R148, R154: the TRACK of a run that a cross strike reacquires, by the active view. -/
theorem trackCross_reports_of_lost (lost : s.tracker.state = .lost) : (trackCross x y s).reports =
    (requestReport { trackingReport .track s.follower.frameNo (trackCross x y s) with
      flags := { reacquired := true } } s).reports := by
  have running : s.tracker.state ≠ .off := lost ▸ nofun
  simp only [trackingReport, trackCross_tracker x y running, trackCross_frame]
  rw [trackCross_of_lost x y lost]
  exact requestReport_reports_congr _ rfl

end

/-! ### One cross strike still to be taken -/

section
variable {s : State} {r : CrossHandOff} (h : s.handed = { gate := [], tracker := [r] })
include h

theorem settleResults_of_lone_cross : settleResults s = takeCross r (s.setHanded .none) := by
  show crossResultsTake s.handed.tracker.length (gateResultsTake s.handed.gate.length s) = _
  rw [h]
  show takeOldest 1 s.handed.tracker takeCross
    (s.setHanded { s.handed with tracker := s.handed.tracker.drop 1 }) = _
  rw [h]
  rfl

/-- A lone result of the Tracking Unit is left or met. -/
theorem meet_of_lone_cross (notices : NoticesTaken s) :
    ∃ n, meet s = s.setChoices n ∨ meet s = (takeCross r (s.setHanded .none)).setChoices n := by
  obtain ⟨i, hi, j, hj, n, hmeet⟩ := meetResults_spec s
  rw [meet, meetNotices_none notices, hmeet, ← settleResults_of_lone_cross h, settleResults]
  rw [h] at hi hj ⊢
  obtain rfl : i = 0 := Nat.le_zero.1 hi
  obtain rfl | rfl : j = 0 ∨ j = 1 := Nat.le_one_iff_eq_zero_or_eq_one.1 hj
  · exact ⟨n, .inl rfl⟩
  · exact ⟨n, .inr rfl⟩

end

/-- R151: a tip-up ends the run that goes on. -/
theorem debounceExpires_endsRun {s : State} (hdown : s.pen.tip = .down) (running : s.tracker.state ≠ .off) :
    (debounceExpires s).tracker = runEndTracker s.tracker :=
  (debounceExpires_tippedUp hdown).tracker.trans (if_neg running)

/-- Settles O52: the unit that a cross strike leaves, and the tip-up after it or before it. -/
theorem crossStrikeMovesOneAxis : Obligations.CrossStrikeMovesOneAxis := by
  refine ⟨fun x y s sound running => ?struck, fun at_ x y s off => trackCross_of_off x y off,
    fun i at_ x y s hi due hdown notices handed running => ?tipUp⟩
  case struck =>
    intro u t place dx dy
    have struck : t = u.struckAt s.loft.active.rounding x y := trackCross_tracker x y running
    rw [struck]
    refine ⟨rfl, rfl, rfl, rfl, fun lost => ⟨if_pos lost, if_pos lost, ?_⟩,
      fun tracking => ⟨if_neg (tracking ▸ nofun), if_neg (tracking ▸ nofun), ?_⟩, fun longer => ?_, fun longer => ?_⟩
    · rw [trackCross_reports_of_lost x y lost, trackingReport, trackCross_tracker x y running]
      simp only [place, struck, trackCross_frame]
      rfl
    · rw [trackCross_of_tracking x y tracking, State.setTracker_reports]
    · rw [Tracker.struckAt, filterStep_of_x longer]
      exact ⟨rfl, toNat_clampCoord_eq _ sound.active.boxX⟩
    · rw [Tracker.struckAt, filterStep_of_y longer]
      exact ⟨rfl, toNat_clampCoord_eq _ sound.active.boxY⟩
  case tipUp =>
    rw [exec_debounceExpiry hi due]
    obtain ⟨n, hmeet | hmeet⟩ := meet_of_lone_cross handed notices <;> rw [hmeet]
    · let u := s.setChoices n
      have ended : (debounceExpires u).tracker = runEndTracker s.tracker := debounceExpires_endsRun hdown running
      have left : (debounceExpires u).handed = s.handed := by simp [u]
      have late : settleResults (debounceExpires u) = (debounceExpires u).setHanded .none := by
        rw [settleResults_of_lone_cross (left.trans handed)]
        exact trackCross_of_off x y (congrArg (·.state) ended)
      exact ⟨_, rfl, debounceExpires_pen_of_down (s := u) hdown, .inr ⟨left, ended, late ▸ ended⟩⟩
    · let u := (trackCross x y (s.setHanded .none)).setChoices n
      have struck : u.tracker = (trackCross x y s).tracker :=
        (trackCross_tracker x y (s := s.setHanded .none) running).trans (trackCross_tracker x y running).symm
      have hdown' : u.pen.tip = .down := by simpa [u] using hdown
      have running' : u.tracker.state ≠ .off := by
        rw [struck, trackCross_tracker x y running]
        nofun
      refine ⟨_, rfl, ?_, .inl ⟨?_, ?_⟩⟩
      · simpa [u, takeCross] using debounceExpires_pen_of_down hdown'
      · simp [ResultsTaken, takeCross]
      · exact struck ▸ debounceExpires_endsRun hdown' running'

end Sys2Proof.Machine
end

section
/-! # The Tracking Unit's turn at a frame end, and the two count rows (R149, R150, R154, R176)

With a quiet Gate Unit, the display RUNNING and no ring pending, the Tracking Unit's own turn is all that a frame end
reports, so that the reports of a RESTART follow from what the turn asks for. -/

namespace Sys2Proof.Machine

/-! ### The Tracking Unit's own frame end -/

/-- The loss count that a frame end gives a run (R149). -/
def Tracker.missed (t : Tracker) : Nat := if t.crossStruck then 0 else min 15 (t.lossCount + 1)

/-- A run once its loss count has been raised (R149). -/
def Tracker.counted (t : Tracker) : Tracker :=
  { t with lossCount := t.missed, comparedLoss := t.active.lossLimit, crossStruck := false }

theorem countLoss_of_running {s : State} (running : s.tracker.state ≠ .off) :
    countLoss s = s.setTracker s.tracker.counted :=
  if_pos ((Tracker.runs_iff _).2 running)

/-- R149: a run goes LOST, and is reported as LOST, at the limit its count was compared with. -/
theorem goLost_of_reached {s : State} (view : ViewSettings) (tracking : s.tracker.state = .tracking)
    (reached : s.tracker.comparedLoss ≤ s.tracker.lossCount) : goLost view s =
    requestReport (trackReport .trackLost view s) (s.setTracker { s.tracker with state := .lost }) :=
  if_pos ⟨tracking, reached⟩

/-- The steps of a frame end after the report keep the run's state, its count and the position last reported. -/
theorem trackRollFrame_run (t : Tracker) : (trackRollFrame t).state = t.state ∧
    (trackRollFrame t).lossCount = t.lossCount ∧ (trackRollFrame t).lastReported = t.lastReported := by
  unfold trackRollFrame applyTrackShadow
  split <;> exact ⟨rfl, rfl, rfl⟩

section
variable {s : State} (view : ViewSettings)

/-- R149: a run that reaches its loss limit at a frame end goes LOST, with one report. -/
theorem trackFrameEnd_of_reached (tracking : s.tracker.state = .tracking)
    (reached : s.tracker.active.lossLimit ≤ s.tracker.missed) :
    (trackFrameEnd view s).tracker = trackRollFrame { s.tracker.counted with state := .lost } ∧
    (trackFrameEnd view s).reports = reportsAsked [trackReport .trackLost view s] s := by
  have running : s.tracker.state ≠ .off := tracking ▸ nofun
  let counted := s.setTracker s.tracker.counted
  have lost : goLost view counted =
      requestReport (trackReport .trackLost view counted) (s.setTracker { s.tracker.counted with state := .lost }) :=
    goLost_of_reached view tracking reached
  have silent : frameTrack view (goLost view counted) = goLost view counted :=
    if_neg fun moved => by simp [lost] at moved
  rw [trackFrameEnd, countLoss_of_running running, silent, lost]
  exact ⟨by simp, requestReport_reports_congr _ rfl⟩

/-- R150: a run that goes on TRACKING at a frame end reports the position it has moved to. -/
theorem trackFrameEnd_of_below (tracking : s.tracker.state = .tracking)
    (below : s.tracker.missed < s.tracker.active.lossLimit) :
    (trackFrameEnd view s).tracker =
      trackRollFrame { s.tracker.counted with lastReported := some (s.tracker.tx, s.tracker.ty) } ∧
    (trackFrameEnd view s).reports = reportsAsked
      (if s.tracker.lastReported = some (s.tracker.tx, s.tracker.ty) then [] else [trackReport .track view s]) s := by
  have running : s.tracker.state ≠ .off := tracking ▸ nofun
  have kept : goLost view (s.setTracker s.tracker.counted) = s.setTracker s.tracker.counted :=
    if_neg fun lost => Nat.not_le.2 below lost.2
  rw [trackFrameEnd, countLoss_of_running running, kept]
  by_cases same : s.tracker.lastReported = some (s.tracker.tx, s.tracker.ty)
  · have quiet : frameTrack view (s.setTracker s.tracker.counted) = s.setTracker s.tracker.counted :=
      if_neg fun moved => moved.2 same
    rw [quiet, if_pos same, ← same]
    exact ⟨rfl, rfl⟩
  · have moved : frameTrack view (s.setTracker s.tracker.counted) =
        requestTrack false view (s.setTracker s.tracker.counted) := if_pos ⟨tracking, same⟩
    rw [moved, if_neg same]
    exact ⟨by simp [requestTrack_tracker, Tracker.counted], requestReport_reports_congr _ rfl⟩

/-- R149: a run that is LOST reports nothing at a frame end. -/
theorem trackFrameEnd_of_lost (lost : s.tracker.state = .lost) : (trackFrameEnd view s).reports = s.reports := by
  have running : s.tracker.state ≠ .off := lost ▸ nofun
  have quiet : frameTrack view (goLost view (s.setTracker s.tracker.counted)) = s.setTracker s.tracker.counted := by
    simp [goLost, frameTrack, Tracker.counted, lost]
  rw [trackFrameEnd, countLoss_of_running running, quiet]
  rfl

end

/-! ### The blocks before and after it -/

/-- A quiet Gate Unit stays quiet at a frame end, and asks for nothing (R108, R114). -/
theorem gateFrameEnd_of_quiet {s : State} (quiet : GateQuiet s) : GateQuiet (gateFrameEnd s) ∧
    (gateFrameEnd s).echo = s.echo ∧ (gateFrameEnd s).reports = s.reports := by
  obtain ⟨closed, lost, left⟩ := quiet
  rw [gateFrameEnd, raiseGateCount_of_closed closed, closeByLength_of_closed closed,
    dwellFrameEnd_of_left closed lost left]
  exact ⟨⟨closed, rfl, rfl⟩, rfl, rfl⟩

/-- Nothing but the Tracking Unit asks for a report or applies a ring at a frame end: the Gate Unit is quiet and no ring
is pending (R108, R114, R196). -/
structure QuietBesideTracker (s : State) : Prop where
  gate : GateQuiet s
  ring : s.reports.shadow = none

section
variable {x : FrameFacts} {e : FrameTaker} {s : State} (h : e ≠ .tracker)
include h

theorem frameEndAt_tracker : (frameEndAt x s e).tracker = s.tracker := by
  cases e with
  | tracker => exact absurd rfl h
  | follower =>
    unfold frameEndAt
    dsimp only
    split <;> simp
  | _ => simp [frameEndAt]

theorem frameEndAt_quietBesideTracker (running : x.resumedAt = none) (quiet : QuietBesideTracker s) :
    (frameEndAt x s e).reports = s.reports ∧ QuietBesideTracker (frameEndAt x s e) := by
  obtain ⟨gate, ring⟩ := quiet
  have reports : (frameEndAt x s e).reports = s.reports := by
    cases e with
    | tracker => exact absurd rfl h
    | follower => simp [frameEndAt, running]
    | gate => exact (gateFrameEnd_of_quiet gate).2.2
    | reports => simp [frameEndAt, reportsFrameEnd, ring]
    | _ => simp [frameEndAt]
  refine ⟨reports, ?_, reports ▸ ring⟩
  by_cases own : e = .gate
  · exact own ▸ (gateFrameEnd_of_quiet gate).1
  · rwa [GateQuiet, frameEndAt_gate own]

end

section
variable {x : FrameFacts} {l : List FrameTaker} (h : .tracker ∉ l)
include h

theorem foldl_frameEndAt_tracker (s : State) : (l.foldl (frameEndAt x) s).tracker = s.tracker := by
  induction l generalizing s with
  | nil => rfl
  | cons e l ih =>
    obtain ⟨he, hl⟩ := List.ne_and_not_mem_of_not_mem_cons h
    exact (ih hl _).trans (frameEndAt_tracker (Ne.symm he))

theorem foldl_frameEndAt_quietBesideTracker (running : x.resumedAt = none) {s : State}
    (quiet : QuietBesideTracker s) :
    (l.foldl (frameEndAt x) s).reports = s.reports ∧ QuietBesideTracker (l.foldl (frameEndAt x) s) := by
  induction l generalizing s with
  | nil => exact ⟨rfl, quiet⟩
  | cons e l ih =>
    obtain ⟨he, hl⟩ := List.ne_and_not_mem_of_not_mem_cons h
    obtain ⟨same, quiet⟩ := frameEndAt_quietBesideTracker (Ne.symm he) running quiet
    obtain ⟨rest, quiet⟩ := ih hl quiet
    exact ⟨rest.trans same, quiet⟩

end

/-! ### The turn -/

/-- In a frame end that leads from one state to another, the Tracking Unit takes its turn in the state `u`, and what it
asks for there is all that is reported. -/
structure TrackerTurn (s u t : State) : Prop where
  frame : u.follower.frameNo = s.follower.frameNo + 1
  time : u.time = s.time
  found : u.tracker = s.tracker
  tracker : t.tracker = (trackFrameEnd s.loft.active u).tracker
  reports : QuietBesideTracker s → s.follower.display = .running → ∀ l,
    (trackFrameEnd s.loft.active u).reports = reportsAsked l u → t.reports = reportsAsked l s

/-- A frame end reaches each block once, whatever the order (R15). -/
theorem frameEnd_around (e : FrameTaker) (a : Addr) (s : State) : ∃ before after : List FrameTaker,
    e ∉ before ∧ e ∉ after ∧ frameEnd a s =
      let x := frameFacts a s
      after.foldl (frameEndAt x) (frameEndAt x (before.foldl (frameEndAt x) (frameEndQuiet (afterDraw s))) e) := by
  have perm := permute_perm (drawn s) frameTakers
  obtain ⟨before, after, order⟩ := List.append_of_mem (perm.mem_iff.2 (by cases e <;> decide : e ∈ frameTakers))
  have once : (before ++ e :: after).Nodup := order ▸ perm.nodup_iff.2 (by decide)
  obtain ⟨_, hafter, apart⟩ := List.nodup_append.1 once
  refine ⟨before, after, fun h => apart _ h _ List.mem_cons_self rfl, (List.nodup_cons.1 hafter).1, ?_⟩
  rw [frameEnd, frameEndIn, order, List.foldl_append, List.foldl_cons]
  rfl

theorem trackerTurn_frameEnd (a : Addr) (s : State) : ∃ u, TrackerTurn s u (frameEnd a s) := by
  obtain ⟨before, after, tracker_before, tracker_after, ended⟩ := frameEnd_around .tracker a s
  let x := frameFacts a s
  let start := frameEndQuiet (afterDraw s)
  let u := before.foldl (frameEndAt x) start
  have ended : frameEnd a s = after.foldl (frameEndAt x) (trackFrameEnd s.loft.active u) := ended
  refine ⟨u, ?_, ?_, ?_, ?_, fun quiet running l asked => ?_⟩
  · simp [u, start, frameEndQuiet_follower, Follower.frameEnd]
  · simp [u, start]
  · exact (foldl_frameEndAt_tracker tracker_before _).trans (by simp [start])
  · rw [ended, foldl_frameEndAt_tracker tracker_after]
  · have resumed : x.resumedAt = none := by simp [x, frameFacts, running]
    have quiet : QuietBesideTracker start :=
      ⟨by simpa [start, GateQuiet] using quiet.gate, by simpa [start] using quiet.ring⟩
    obtain ⟨same, gate, ring⟩ := foldl_frameEndAt_quietBesideTracker tracker_before resumed quiet
    have asked_quiet : QuietBesideTracker (trackFrameEnd s.loft.active u) :=
      ⟨by simpa [GateQuiet] using gate, asked ▸ (reportsAsked_shadow l u).trans ring⟩
    rw [ended, (foldl_frameEndAt_quietBesideTracker tracker_after resumed asked_quiet).1, asked]
    exact reportsAsked_congr l (same.trans (by simp [start]))

/-- A RESTART fetched in its turn ends a frame, and the Tracking Unit takes its turn in it. -/
theorem exec_dRead_of_restart_tracker {a target : Addr} {s : State} (h : AtRestart a target s) (x y : Coord) :
    ∃ t u, exec (.dRead a x y) s = .next t ∧ TrackerTurn s u t := by
  obtain ⟨granted, follow, expected, idle, order⟩ := h
  let v := (breakLock (.dRead a x y) s).setPassage
    { (breakLock (.dRead a x y) s).passage with fairShare := countAfterPassing s }
  have carried : present (.dRead a x y) s = hold [] (carryDRead a x y v) := granted.present_carried nofun
  obtain ⟨text, ended⟩ := carryDRead_of_restart (s := v) x y follow expected idle order
  obtain ⟨u, turn⟩ := trackerTurn_frameEnd a ((arrayRead a (presentBeam x y v)).setFollower
    { v.follower.emptied with expected := some target })
  refine ⟨_, u, congrArg Host.Outcome.next carried, ?_⟩
  rw [ended]
  exact ⟨turn.frame, turn.time, turn.found, turn.tracker, fun quiet running l asked =>
    (turn.reports ⟨quiet.gate, quiet.ring⟩ running l asked).trans (reportsAsked_congr l rfl)⟩

/-! ### The report and the rows -/

/-- R150, R154: the reports of the turn are those of the state before the frame end, with the raised frame number. -/
theorem TrackerTurn.reported {s u t : State} (turn : TrackerTurn s u t) (kind : ReportKind) :
    trackReport kind s.loft.active u = trackingReport kind (s.follower.frameNo + 1) s := by
  simp only [trackReport, newReport, trackingReport, turn.frame, turn.time, turn.found]

theorem exec_trackLost_of_reached {s : State} (settled : Settled s) (tracking : s.tracker.state = .tracking)
    (reached : s.tracker.comparedLoss ≤ s.tracker.lossCount) : exec .trackLost s = .next (requestReport
      (trackReport .trackLost s.loft.active s) (s.setTracker { s.tracker with state := .lost })) := by
  have row : exec .trackLost s = .next (goLost s.loft.active (meet s)) := congrArg Host.Outcome.next (if_pos reached)
  rw [row, meet_none settled.1 settled.2, goLost_of_reached _ tracking reached]

theorem exec_itemEchoExpiry {s : State} {i : ItemEcho} (item : s.echo.item = some i) : exec .itemEchoExpiry s =
    .next (if i.frames = 0 then s.setEcho { s.echo with item := none } else s) := by
  have row : exec .itemEchoExpiry s = .next (itemEchoRunOut s) := rfl
  rw [row, itemEchoRunOut, item]

/-- Settles O42: the Tracking Unit's turn at the frame end by the state of the run, the Gate Unit's for the item echo,
and the rows. -/
theorem lossAndEchoLimits : Obligations.LossAndEchoLimits := by
  refine ⟨fun a target x y s restart quiet running ring => ?restart, fun s => ⟨fun settled tracking reached => ?lost,
    fun i item => ⟨fun last => ?_, fun more => ?_⟩⟩⟩
  case restart =>
    intro missed report
    obtain ⟨t, u, hexec, turn⟩ := exec_dRead_of_restart_tracker restart x y
    obtain ⟨t', v, hexec', gateTurn⟩ := exec_dRead_of_restart restart x y
    obtain rfl : t = t' := Host.Outcome.next.inj (hexec.symm.trans hexec')
    have reports := turn.reports ⟨quiet, ring⟩ running
    have quietThere : GateQuiet v := by rwa [GateQuiet, gateTurn.found]
    refine ⟨t, hexec, gateTurn.item_of_unasked (by rw [(gateFrameEnd_of_quiet quietThere).2.1]), fun lost => ?_,
      fun tracking reached => ?_, fun tracking below => ?_⟩
    · exact reports [] (trackFrameEnd_of_lost _ (turn.found ▸ lost))
    · obtain ⟨tracker, asked⟩ :=
        trackFrameEnd_of_reached s.loft.active (s := u) (turn.found ▸ tracking) (turn.found ▸ reached)
      obtain ⟨state, count, _⟩ := trackRollFrame_run { u.tracker.counted with state := .lost }
      rw [turn.tracker, tracker, reports _ asked, turn.reported, state, count, turn.found]
      exact ⟨rfl, rfl, rfl⟩
    · obtain ⟨tracker, asked⟩ :=
        trackFrameEnd_of_below s.loft.active (s := u) (turn.found ▸ tracking) (turn.found ▸ below)
      obtain ⟨state, count, reported⟩ := trackRollFrame_run
        { u.tracker.counted with lastReported := some (u.tracker.tx, u.tracker.ty) }
      rw [turn.tracker, tracker, reports _ asked, turn.reported, state, count, reported, turn.found]
      refine ⟨tracking, rfl, rfl, ?_⟩
      split_ifs <;> rfl
  case lost =>
    exact ⟨_, exec_trackLost_of_reached settled tracking reached, by simp, requestReport_reports_congr _ rfl, by simp,
      by simp, by simp, by simp⟩
  · rw [exec_itemEchoExpiry item, if_pos last]
    rfl
  · rw [exec_itemEchoExpiry item, if_neg more]

end Sys2Proof.Machine
end

section
/-! # Operations that leave the Store Passage alone (R163, R166)

A block's operation changes nothing of the Store Passage but the fair-share count, which a withdrawal may return to 0.
An event of the pen, of a count or of the time base takes no own request back either, so that the cycle in progress is
still asked for. -/

namespace Sys2Proof.Machine

/-! ### The passage but for a withdrawal (R166) -/

/-- The Store Passage stands as it stood, but that its fair-share count may have been returned to 0. -/
structure PassageLeft (s t : State) : Prop where
  same : SamePassage s t
  count : t.passage.fairShare ≤ s.passage.fairShare

namespace PassageLeft

theorem of_eq {s t : State} (h : t.passage = s.passage) : PassageLeft s t := ⟨.of_eq h, (congrArg (·.fairShare) h).le⟩

theorem trans {s t u : State} (h : PassageLeft s t) (g : PassageLeft t u) : PassageLeft s u :=
  ⟨h.same.trans g.same, g.count.trans h.count⟩

/-- What leaves the passage as it is may come before. -/
theorem after {s t u : State} (g : PassageLeft t u) (h : t.passage = s.passage) : PassageLeft s u := (of_eq h).trans g

/-- What leaves the passage as it is may come after. -/
theorem before {s t u : State} (h : PassageLeft s t) (g : u.passage = t.passage) : PassageLeft s u := h.trans (of_eq g)

/-- A list of operations, each of which leaves the passage alone. -/
theorem foldl {α : Type} {f : State → α → State} (hf : ∀ t x, PassageLeft t (f t x)) (l : List α) (s : State) :
    PassageLeft s (l.foldl f s) := by
  induction l generalizing s with
  | nil => exact of_eq rfl
  | cons x l ih => exact (hf s x).trans (ih _)

/-! ### Withdrawals -/

theorem afterWithdrawal (s : State) : PassageLeft s (afterWithdrawal s) := by
  refine ⟨samePassage_afterWithdrawal s, ?_⟩
  unfold Machine.afterWithdrawal
  split_ifs
  · exact Nat.zero_le _
  · exact le_rfl

theorem passNotice (a : Addr) (s : State) : PassageLeft s (passNotice a s) := by
  unfold Machine.passNotice
  split_ifs
  · exact (afterWithdrawal _).after rfl
  · exact of_eq rfl

theorem trackNotice (a : Addr) (s : State) : PassageLeft s (trackNotice a s) := by
  unfold Machine.trackNotice
  dsimp only
  split
  · split_ifs
    · exact (afterWithdrawal _).after rfl
    · exact of_eq rfl
  · exact of_eq rfl

theorem waiting (o : WriteOut) (s : State) : PassageLeft s (Machine.afterWithdrawal (enterWaiting o s)) :=
  (afterWithdrawal _).after rfl

theorem enterClaim (r : Report) (i : Nat) (s : State) : PassageLeft s (enterClaim r i s) := of_eq (by simp)

theorem applyRing (r : Ring) (s : State) : PassageLeft s (applyRing r s) := by
  unfold Machine.applyRing
  dsimp only
  split
  · exact of_eq (by simp)
  · split
    · refine trans ?_ (enterClaim _ _ _)
      exact (waiting _ _).after rfl
    · exact of_eq (by simp)
    all_goals exact of_eq rfl

theorem afterFill (s : State) : PassageLeft s (afterFill s) := by
  unfold Machine.afterFill
  split_ifs
  · split
    · exact applyRing _ s
    · exact of_eq rfl
  · exact of_eq rfl

theorem reportsNotice (a : Addr) (d : Word) (s : State) : PassageLeft s (reportsNotice a d s) := by
  unfold Machine.reportsNotice
  split
  · exact of_eq rfl
  · dsimp only
    split_ifs
    · exact of_eq rfl
    · split
      · split_ifs
        · refine trans ?_ (afterFill _)
          exact (waiting _ _).after rfl
        · exact of_eq rfl
      · exact of_eq rfl
    · split
      · split_ifs
        · exact of_eq (by simp)
        · exact (waiting _ _).after rfl
        · exact of_eq rfl
      · exact of_eq rfl
    · split
      · split_ifs
        · exact of_eq (by simp)
        · exact (waiting _ _).after rfl
        · exact of_eq rfl
      · exact of_eq rfl

theorem reportsFrameEnd (s : State) : PassageLeft s (reportsFrameEnd s) := by
  unfold Machine.reportsFrameEnd
  split
  · exact of_eq rfl
  · split
    · exact of_eq rfl
    · exact of_eq rfl
    · exact applyRing _ s

theorem ownerAnswered (s : State) : PassageLeft s (ownerAnswered s) := by
  unfold Machine.ownerAnswered
  split
  · split_ifs
    · exact (afterFill _).after (by simp)
    · exact of_eq rfl
  · exact of_eq rfl

theorem offerWriteBack (s : State) : PassageLeft s (offerWriteBack s) := by
  unfold Machine.offerWriteBack requestWriteBack
  split
  · split_ifs
    · refine before (t := match s.tracker.writeBack with
        | some b => if b.granted then s else Machine.afterWithdrawal (s.setTracker { s.tracker with writeBack := none })
        | none => s) ?_ rfl
      split
      · split_ifs
        · exact of_eq rfl
        · exact (afterWithdrawal _).after rfl
      · exact of_eq rfl
    · exact of_eq rfl
  · exact of_eq rfl

theorem endRun (r : EndReason) (s : State) : PassageLeft s (endRun r s) := by
  unfold Machine.endRun
  split_ifs
  · exact ((offerWriteBack _).after (by simp)).before rfl
  · exact of_eq rfl

/-! ### A fetch (R159) -/

theorem actOnCommand (p : BitVec 12) (ws : List Word) (a : Addr) (s : State) :
    PassageLeft s (actOnCommand p ws a s) := by
  unfold Machine.actOnCommand
  split
  · rename_i t ht
    rcases commandEffect_cases ht with ⟨q, _, rfl⟩ | ⟨_, rfl⟩ | rfl | rfl | ⟨n, _, rfl⟩ | rfl | rfl
    case inr.inl => exact endRun _ s
    all_goals exact of_eq (by simp)
  · exact of_eq (by simp)

theorem passCommand (p : BitVec 12) (e : Nat) (ws : List Word) (a : Addr) (s : State) :
    PassageLeft s (passCommand p e ws a s) := by
  unfold Machine.passCommand
  split_ifs
  · exact of_eq rfl
  · exact of_eq rfl
  · exact (actOnCommand p ws a s).before (by simp)

theorem handOff (a : Addr) (e n : Nat) (p : BitVec 12) (ws : List Word) (s : State) :
    PassageLeft s (handOff a e n p ws s) := by
  unfold Machine.handOff
  split
  · unfold passOpen
    split
    case h_8 => exact passCommand p e ws a s
    all_goals exact of_eq (by simp)
  · split_ifs
    · unfold passSystem
      split <;> exact of_eq (by simp)
    · exact of_eq (by simp)
  · exact of_eq rfl

theorem completeOrder (a : Addr) (o : Order) (ws : List Word) (last : Addr) (s : State) :
    PassageLeft s (completeOrder a o ws last s) := by
  have applied : PassageLeft s (applyOrder a o ws s) := by
    unfold applyOrder
    split
    · exact (handOff _ _ _ _ _ _).after (by split_ifs <;> rfl)
    · exact of_eq rfl
  unfold Machine.completeOrder
  dsimp only
  split <;> exact applied.before rfl

theorem frameEndAt (x : FrameFacts) (s : State) (e : FrameTaker) : PassageLeft s (frameEndAt x s e) := by
  cases e with
  | reports => exact reportsFrameEnd s
  | follower =>
    unfold Machine.frameEndAt
    dsimp only
    split <;> exact of_eq (by simp)
  | segments => exact of_eq (by simp [Machine.frameEndAt])
  | gate => exact of_eq (by simp [Machine.frameEndAt])
  | tracker => exact of_eq (by simp [Machine.frameEndAt])
  | echo => exact of_eq (by simp [Machine.frameEndAt])

theorem frameEnd (a : Addr) (s : State) : PassageLeft s (frameEnd a s) :=
  (foldl (frameEndAt _) _ (frameEndQuiet (afterDraw s))).after (by simp [frameEndQuiet])

theorem fetchOrderWord (a : Addr) (w : Word) (s : State) : PassageLeft s (fetchOrderWord a w s).1 := by
  unfold Machine.fetchOrderWord
  dsimp only
  split
  · exact (frameEnd a _).after rfl
  · split
    · split <;> exact of_eq (by simp)
    · have handed : (handOrderWord a w (decodeOrder w) (recordVisible a (decodeOrder w) s)).passage = s.passage := by
        simp
      unfold followOrder
      dsimp only
      split_ifs
      · exact (completeOrder _ _ _ _ _).after handed
      · exact of_eq handed

theorem fetchOperandWord (p : InProgress) (a : Addr) (w : Word) (s : State) :
    PassageLeft s (fetchOperandWord p a w s).1 := by
  unfold Machine.fetchOperandWord
  dsimp only
  split_ifs
  · exact (completeOrder _ _ _ _ _).after (by simp)
  · exact of_eq (by simp)

theorem followFetch (a : Addr) (w : Word) (s : State) : PassageLeft s (followFetch a w s).1 := by
  have resynced : PassageLeft s (resyncAt a s) := (frameEnd a _).after rfl
  unfold Machine.followFetch
  split
  · split_ifs
    · split
      · exact fetchOrderWord a w s
      · exact fetchOperandWord _ a w s
    · exact of_eq (by simp)
  all_goals
    split_ifs
    · exact resynced.trans (fetchOrderWord a w _)
    · exact of_eq (by simp)

end PassageLeft

end Sys2Proof.Machine
end

section
/-! # Events beside the bus (R157, R163)

What happens at the pen, at a count or at the time base leaves the Store Passage and its pins alone and takes no own
request back: a write-back in progress may be followed by another, and a write-out keeps its place while records are
queued behind it. -/

namespace Sys2Proof.Machine

/-! ### A write-out keeps its request while reports are asked -/

theorem enqueue_writeOut (w : ReportWriter) (r : Report) :
    (w.enqueue r).ring = w.ring ∧ (w.enqueue r).writeOut = w.writeOut ∧ (w.enqueue r).sequence = w.sequence := by
  unfold ReportWriter.enqueue ReportWriter.append
  split_ifs <;> exact ⟨rfl, rfl, rfl⟩

theorem takeNext_of_busy {s : State} {o : WriteOut} (h : s.reports.writeOut = some o) : takeNext s = s := by
  simp only [takeNext, h]

/-- Only a write-out in hand has a request. -/
theorem writeOut_of_request {w : ReportWriter} {c : OwnCycle} (h : writeOutRequest w = some c) :
    ∃ o, w.writeOut = some o := by
  unfold writeOutRequest at h
  split at h
  · exact ⟨_, ‹_›⟩
  · cases h

/-- R189: a report asked meanwhile is queued. -/
theorem writeOutRequest_requestReport {s : State} {c : OwnCycle} (r : Report)
    (h : writeOutRequest s.reports = some c) : writeOutRequest (requestReport r s).reports = some c := by
  obtain ⟨o, ho⟩ := writeOut_of_request h
  obtain ⟨ring, writeOut, sequence⟩ := enqueue_writeOut s.reports r
  have queued : (requestReport r s).reports = s.reports.enqueue r :=
    congrArg State.reports (takeNext_of_busy (writeOut.trans ho))
  rw [queued, ← h]
  simp only [writeOutRequest, ring, writeOut, sequence]

theorem writeOutRequest_reportsAsked (l : List Report) {s : State} {c : OwnCycle}
    (h : writeOutRequest s.reports = some c) : writeOutRequest (reportsAsked l s) = some c := by
  unfold reportsAsked
  induction l generalizing s with
  | nil => exact h
  | cons r l ih => exact ih (writeOutRequest_requestReport r h)

/-! ### The bus left alone -/

/-- The Store Passage and its pins stand as they stood, but for a withdrawal, and the request behind a cycle in progress
is still outstanding (R163, R166). -/
structure BusLeft (s t : State) : Prop where
  passage : PassageLeft s t
  bwait : t.pins.bwait = s.pins.bwait
  mcyc : t.pins.mcyc = s.pins.mcyc
  asked : ∀ c, PortSound s c → PortSound t c

namespace BusLeft

theorem trans {s t u : State} (h : BusLeft s t) (g : BusLeft t u) : BusLeft s u where
  passage := h.passage.trans g.passage
  bwait := g.bwait.trans h.bwait
  mcyc := g.mcyc.trans h.mcyc
  asked c := g.asked c ∘ h.asked c

/-- An operation that leaves the Consumption List, lets a write-back stand or exchanges it, and asks for reports. -/
theorem of_asked {s t : State} (passage : PassageLeft s t) (pins : t.pins.bwait = s.pins.bwait ∧ t.pins.mcyc = s.pins.mcyc)
    (pass : t.pass = s.pass) (writeBack : ∀ b, s.tracker.writeBack = some b → ∃ b, t.tracker.writeBack = some b)
    (l : List Report) (reports : t.reports = reportsAsked l s) : BusLeft s t where
  passage := passage
  bwait := pins.1
  mcyc := pins.2
  asked c h := by
    have writeOut : writeOutRequest s.reports = some c → writeOutRequest t.reports = some c :=
      reports ▸ writeOutRequest_reportsAsked l
    cases c with
    | consumption a w =>
      rw [PortSound, pass]
      exact h
    | writeBack a w => exact h.elim writeBack
    | claim a => exact writeOut h
    | fill a w => exact writeOut h
    | owner a w => exact writeOut h

/-- An operation on another block. -/
theorem of_same {s t : State} (passage : t.passage = s.passage)
    (pins : t.pins.bwait = s.pins.bwait ∧ t.pins.mcyc = s.pins.mcyc) (pass : t.pass = s.pass)
    (writeBack : t.tracker.writeBack = s.tracker.writeBack) (reports : t.reports = s.reports) : BusLeft s t :=
  of_asked (.of_eq passage) pins pass (fun b h => ⟨b, writeBack.trans h⟩) [] reports

theorem refl (s : State) : BusLeft s s := of_same rfl ⟨rfl, rfl⟩ rfl rfl rfl

theorem ite {s a b : State} {c : Prop} [Decidable c] (ha : BusLeft s a) (hb : BusLeft s b) :
    BusLeft s (if c then a else b) := by
  split <;> assumption

/-- A list of operations, each of which leaves the bus alone. -/
theorem foldl {α : Type} {f : State → α → State} (hf : ∀ t x, BusLeft t (f t x)) (l : List α) (s : State) :
    BusLeft s (l.foldl f s) := by
  induction l generalizing s with
  | nil => exact refl s
  | cons x l ih => exact (hf s x).trans (ih _)

/-! ### Reports, the gate and tracking -/

theorem requestReport (r : Report) (s : State) : BusLeft s (requestReport r s) :=
  of_asked (.of_eq (by simp)) (by simp) (by simp) (fun b h => ⟨b, by simpa using h⟩) [r] rfl

theorem setTracker {s : State} {x : Tracker} (h : x.writeBack = s.tracker.writeBack) : BusLeft s (s.setTracker x) :=
  of_same rfl ⟨rfl, rfl⟩ rfl h rfl

theorem afterPick (k : Key) (p : Snapshot) (s : State) : BusLeft s (afterPick k p s) :=
  of_same (by simp) (by simp) (by simp) (by simp) (by simp)

theorem closeDeciding (b : Bool) (s : State) : BusLeft s (closeDeciding b s) :=
  of_asked (.of_eq (by simp)) (by simp) (by simp) (fun b h => ⟨b, by simpa using h⟩) _ (closeDeciding_spec b s).2.2

theorem closeByLength (s : State) : BusLeft s (closeByLength s) := by
  unfold Machine.closeByLength
  split
  · exact ite (closeDeciding false s) (refl s)
  · exact refl s

theorem dwellReport (s : State) : BusLeft s (dwellReport s) := by
  unfold Machine.dwellReport
  split
  · refine ite (trans ?_ (afterPick _ _ _)) (refl s)
    exact trans (requestReport _ s) (of_same rfl ⟨rfl, rfl⟩ rfl rfl rfl)
  · exact refl s

theorem endRun (r : EndReason) (s : State) : BusLeft s (endRun r s) := by
  refine of_asked (PassageLeft.endRun r s) (by simp) (by simp) (fun b h => ?_) _ (endRun_reports r s)
  rw [endRun_tracker]
  split_ifs
  · exact ⟨b, h⟩
  · dsimp only [runEndTracker, runEndWriteBack]
    split
    · split_ifs
      · exact ⟨_, rfl⟩
      · exact ⟨b, h⟩
    · exact ⟨b, h⟩

theorem goLost (view : ViewSettings) (s : State) : BusLeft s (goLost view s) :=
  ite (trans (t := s.setTracker { s.tracker with state := .lost }) (setTracker rfl) (requestReport _ _)) (refl s)

theorem requestTrack (b : Bool) (view : ViewSettings) (s : State) : BusLeft s (requestTrack b view s) :=
  trans (requestReport _ s) (setTracker rfl)

theorem trackCross (x y : Coord) (s : State) : BusLeft s (trackCross x y s) := by
  unfold Machine.trackCross
  dsimp only
  split_ifs
  · exact refl s
  · refine trans ?_ (requestTrack true _ _)
    exact of_same rfl ⟨rfl, rfl⟩ rfl rfl rfl
  · exact setTracker rfl

/-! ### Strike results -/

theorem resultKept (s : State) : ResultKept (BusLeft s) where
  handed _ h := h.trans (of_same rfl ⟨rfl, rfl⟩ rfl rfl rfl)
  draw h := h.trans (of_same rfl ⟨rfl, rfl⟩ rfl rfl rfl)
  winner w h := h.trans (of_same (by simp) (by simp) (by simp) (by simp) (by simp))
  cross x y h := h.trans (trackCross x y _)
  sighting h := h.trans (ite (refl _) (setTracker rfl))

theorem meetResults (s : State) : BusLeft s (meetResults s) := (resultKept s).meetResults (refl s)

theorem takeEarlierResults (s : State) : BusLeft s (takeEarlierResults s) := (resultKept s).takeEarlierResults (refl s)

/-! ### The pen and the frame timeout -/

theorem afterDraw (s : State) : BusLeft s (afterDraw s) := of_same rfl ⟨rfl, rfl⟩ rfl rfl rfl

theorem setPen (p : Pen) (s : State) : BusLeft s (s.setPen p) := of_same rfl ⟨rfl, rfl⟩ rfl rfl rfl

theorem judgePulse (s : State) : BusLeft s (judgePulse s) := by
  unfold Machine.judgePulse
  refine ite (trans ?_ (meetResults _)) (refl s)
  exact of_same (by simp) (by simp) (by simp) (by simp) (by simp)

theorem takeChanges (s : State) : BusLeft s (takeChanges s) :=
  of_same (by simp) (by simp) (by simp) (by simp) (by simp)

theorem pulse (s : State) : BusLeft s (pulse s) := by
  rcases pulse_cases s with ⟨_, hp⟩ | ⟨_, first, hp⟩
  · exact hp ▸ judgePulse s
  · rw [hp]
    exact (afterDraw s).trans (ite (judgePulse _) ((takeChanges _).trans (judgePulse _)))

theorem photoChange (s : State) : BusLeft s (photoChange s) := by
  unfold Machine.photoChange
  refine ite (trans ?_ (pulse _)) ?_ <;> exact of_same rfl ⟨rfl, rfl⟩ rfl rfl rfl

theorem repetitionExpires (s : State) : BusLeft s (repetitionExpires s) := (setPen _ s).trans (pulse _)

theorem tipDown (s : State) : BusLeft s (tipDown s) := by
  unfold Machine.tipDown
  split
  · exact setTracker rfl
  · exact of_same (by simp) (by simp) (by simp) (by simp) (by simp)

theorem tipUp (s : State) : BusLeft s (tipUp s) := by
  have at_ (t : State) (e : EventTaker) : BusLeft t (tipUpAt t e) := by
    cases e with
    | follower => exact refl t
    | gate => exact closeDeciding false t
    | tracker => exact endRun .tip t
  exact (afterDraw s).trans (foldl at_ _ _)

theorem debounceExpires (s : State) : BusLeft s (debounceExpires s) := by
  unfold Machine.debounceExpires
  split
  · exact (setPen _ s).trans (tipDown _)
  · exact (setPen _ s).trans (tipUp _)

theorem timeoutExpires (s : State) : BusLeft s (timeoutExpires s) := by
  have at_ (t : State) (e : EventTaker) : BusLeft t (stoppedAt t e) := by
    cases e with
    | follower => exact requestReport _ t
    | gate => exact closeDeciding true t
    | tracker => exact endRun .stopped t
  have stopped : BusLeft (Machine.afterDraw s) (stopDisplay (Machine.afterDraw s)) := of_same rfl ⟨rfl, rfl⟩ rfl rfl rfl
  exact ((afterDraw s).trans stopped).trans (foldl at_ _ _)

end BusLeft

end Sys2Proof.Machine
end

section
/-! # The Store Passage stays sound (R157, R160, R162 to R166, R169)

At a free port the passage is sound by its count, its pair and its idle array alone, and what is carried there keeps
that. At a port held by an own cycle or by the power-up reset no notice is being taken and no lock is held, so that
nothing is carried and the cycles wait. BWAIT is settled where the serving of the bus ends, in `hold`. -/

namespace Sys2Proof.Machine

theorem SamePassage.pairWritten {s t : State} (h : SamePassage s t) :
    t.passage.pairWritten = s.passage.pairWritten := by
  rw [SamePassage] at h
  rw [h]

/-! ### The passage beside the cycles that wait -/

/-- A sound Store Passage, whatever cycles wait: what holds while the bus is being served. -/
structure BusSound (s : State) : Prop where
  count : s.passage.fairShare ≤ 8
  lock : s.passage.lockHeld = true → s.passage.port = none ∧ s.passage.resetInForce = false
  pair : s.passage.pairWritten = true → s.passage.lockHeld = true ∧ s.passage.notices ≠ .none
  notices : s.passage.notices ≠ .none → s.passage.port = none ∧ s.passage.resetInForce = false
  reset : s.passage.resetInForce = true → s.passage.port = none
  array : s.pins.mcyc = match s.passage.port with
    | none => .idle
    | some (.claim _) => .read
    | some _ => .write
  port : ∀ c, s.passage.port = some c → PortSound s c

theorem PassageSound.bus {s : State} (h : PassageSound s) : BusSound s := { h with }

/-- R157: a sound passage once the cycles that wait are held, none of them idle. -/
theorem BusSound.hold {s : State} (h : BusSound s) {l : List BusCycle}
    (waits : l ≠ [] → s.passage.port ≠ none ∨ s.passage.resetInForce = true) (first : l.head? ≠ some .idle) :
    PassageSound (hold l s) where
  count := h.count
  wait := rfl
  held := waits
  first := first
  lock := h.lock
  pair := h.pair
  notices := h.notices
  reset := h.reset
  array := h.array
  port := h.port

/-- The bus left alone: the passage stays sound, and the same cycles wait. -/
theorem PassageSound.left {s t : State} (h : PassageSound s) (g : BusLeft s t) : PassageSound t := by
  obtain ⟨port, held, reset⟩ := g.passage.same.port
  have lock := g.passage.same.lockHeld
  have pair := g.passage.same.pairWritten
  have notices := g.passage.same.notices
  constructor
  case count => exact g.passage.count.trans h.count
  case wait => rw [g.bwait, held]; exact h.wait
  case held => rw [held, port, reset]; exact h.held
  case first => rw [held]; exact h.first
  case lock => rw [lock, port, reset]; exact h.lock
  case pair => rw [pair, lock, notices]; exact h.pair
  case notices => rw [notices, port, reset]; exact h.notices
  case reset => rw [reset, port]; exact h.reset
  case array => rw [g.mcyc, port]; exact h.array
  case port => exact fun c hc => g.asked c (h.port c (port ▸ hc))

/-! ### A free port -/

/-- A completed pair holds the lock (R160). -/
def PairLocked (s : State) : Prop := s.passage.pairWritten = true → s.passage.lockHeld = true

/-- A completed pair holds the lock only for its notice (R160). -/
def PairNoticed (s : State) : Prop :=
  s.passage.pairWritten = true → s.passage.lockHeld = true ∧ s.passage.notices ≠ .none

/-- A free port at an idle array, the count within its bound (R164, R166). -/
structure FreeArray (s : State) : Prop where
  port : s.passage.port = none
  reset : s.passage.resetInForce = false
  count : s.passage.fairShare ≤ 8
  array : s.pins.mcyc = .idle

/-- A free port whose lock is held by a pair in hand or by the notice of a completed one (R160). -/
structure FreeSound (s : State) : Prop extends FreeArray s where
  pair : PairNoticed s

theorem portFree_iff (s : State) :
    portFree s = true ↔ s.passage.port = none ∧ s.passage.resetInForce = false := by
  simp [portFree, Option.isNone_iff_eq_none]

theorem FreeArray.portFree {s : State} (h : FreeArray s) : portFree s = true := (portFree_iff s).2 ⟨h.port, h.reset⟩

theorem BusSound.free {s : State} (h : BusSound s) (free : portFree s = true) : FreeSound s := by
  obtain ⟨port, reset⟩ := (portFree_iff s).1 free
  have array := h.array
  rw [port] at array
  exact { port, reset, count := h.count, array, pair := h.pair }

theorem FreeSound.bus {s : State} (h : FreeSound s) : BusSound s where
  count := h.count
  lock _ := ⟨h.port, h.reset⟩
  pair := h.pair
  notices _ := ⟨h.port, h.reset⟩
  reset _ := h.port
  array := by rw [h.port]; exact h.array
  port c hc := by rw [h.port] at hc; cases hc

theorem FreeSound.pairLocked {s : State} (h : FreeSound s) : PairLocked s := fun hp => (h.pair hp).1

/-- What leaves the passage alone and the array idle keeps a free port. -/
theorem FreeArray.left {s t : State} (h : FreeArray s) (g : PassageLeft s t) (array : t.pins.mcyc = .idle) :
    FreeArray t := by
  obtain ⟨port, _, reset⟩ := g.same.port
  exact { port := port.trans h.port, reset := reset.trans h.reset, count := g.count.trans h.count, array }

theorem FreeSound.left {s t : State} (h : FreeSound s) (g : PassageLeft s t) (array : t.pins.mcyc = .idle) :
    FreeSound t where
  toFreeArray := h.toFreeArray.left g array
  pair := by
    rw [PairNoticed, g.same.pairWritten, g.same.lockHeld, g.same.notices]
    exact h.pair

/-! ### The notices (R160, R162) -/

theorem count_noticeKept : NoticeKept (fun s => s.passage.fairShare ≤ 8) where
  notices _ h := h
  lock _ _ h := h
  draw h := h
  follower a h := by simpa using h
  menuMap _ h := h
  gate a h := by simpa using h
  pass a h := (PassageLeft.passNotice a _).count.trans h
  tracker a h := (PassageLeft.trackNotice a _).count.trans h
  reports a d h := (PassageLeft.reportsNotice a d _).count.trans h

section
variable {s : State} (h : PairLocked s)
include h

theorem PairLocked.congr {t : State} (lock : t.passage.lockHeld = s.passage.lockHeld)
    (pair : t.passage.pairWritten = s.passage.pairWritten) : PairLocked t := by
  rw [PairLocked, lock, pair]
  exact h

theorem PairLocked.followerTakes (n : Nat) : PairLocked (followerTakes n s) :=
  takeOldest_keeps (P := PairLocked) (fun _ _ ht => ht.congr (by simp) (by simp)) n _ (h.congr rfl rfl)

theorem PairLocked.menuTakes (n : Nat) : PairLocked (menuTakes n s) :=
  takeOldest_keeps (P := PairLocked) (fun _ _ ht => ht.congr (by simp [menuNotice]) (by simp [menuNotice])) n _
    (h.congr rfl rfl)

theorem PairLocked.gateTakes (n : Nat) : PairLocked (gateTakes n s) :=
  takeOldest_keeps (P := PairLocked) (fun _ _ ht => ht.congr (by simp) (by simp)) n _ (h.congr rfl rfl)

theorem PairLocked.passTakes (n : Nat) : PairLocked (passTakes n s) :=
  takeOldest_keeps (P := PairLocked) (fun _ _ ht =>
    have same := samePassage_passNotice _ _
    ht.congr same.lockHeld same.pairWritten) n _ (h.congr rfl rfl)

theorem PairLocked.trackerTakes (n : Nat) : PairLocked (trackerTakes n s) :=
  takeOldest_keeps (P := PairLocked) (fun _ _ ht =>
    have same := samePassage_trackNotice _ _
    ht.congr same.lockHeld same.pairWritten) n _ (h.congr rfl rfl)

theorem PairLocked.reportsTakes (n : Nat) : PairLocked (reportsTakes n s) :=
  takeOldest_keeps (P := PairLocked) (fun _ _ ht =>
    have same := samePassage_reportsNotice _ _ _
    ht.congr same.lockHeld same.pairWritten) n _ (h.congr rfl rfl)

theorem PairLocked.takeSome {take : Nat → State → State} (ht : ∀ {s} n, PairLocked s → PairLocked (take n s))
    (length : Nat) : PairLocked (takeSome length take s) :=
  takeSome_keeps (P := PairLocked) (fun h => h.congr rfl rfl) ht length h

/-- R160: once a pair may have ended, the lock is held for one still being noticed, or for none completed. -/
theorem PairLocked.endPair : PairNoticed (endPair s) := by
  unfold Machine.endPair
  split_ifs with ended
  · exact nofun
  · intro hp
    rw [hp, Bool.true_and, beq_iff_eq] at ended
    exact ⟨h hp, ended⟩

theorem PairLocked.meetNotices (taking : s.passage.notices ≠ .none) : PairNoticed (meetNotices s) := by
  unfold Machine.meetNotices
  rw [if_neg taking]
  dsimp only
  refine PairLocked.endPair (takeSome ?_ (fun n ht => ht.reportsTakes n) _)
  refine takeSome (takeSome ?_ (fun n ht => ht.passTakes n) _) (fun n ht => ht.trackerTakes n) _
  refine takeSome (takeSome ?_ (fun n ht => ht.menuTakes n) _) (fun n ht => ht.gateTakes n) _
  exact h.takeSome (fun n ht => ht.followerTakes n) _

theorem PairLocked.settleNotices (taking : s.passage.notices ≠ .none) : PairNoticed (settleNotices s) := by
  unfold Machine.settleNotices
  rw [if_neg taking]
  exact PairLocked.endPair ((((((h.followerTakes _).menuTakes _).gateTakes _).passTakes _).trackerTakes _).reportsTakes _)

end

theorem FreeArray.meetNotices {s : State} (h : FreeArray s) : FreeArray (meetNotices s) where
  port := by simpa using h.port
  reset := by simpa using h.reset
  count := count_noticeKept.meetNotices h.count
  array := by simpa using h.array

theorem FreeArray.settleNotices {s : State} (h : FreeArray s) : FreeArray (settleNotices s) where
  port := by simpa using h.port
  reset := by simpa using h.reset
  count := count_noticeKept.settleNotices h.count
  array := by simpa using h.array

theorem FreeSound.meetNotices {s : State} (h : FreeSound s) : FreeSound (meetNotices s) := by
  by_cases taken : s.passage.notices = .none
  · rwa [meetNotices_none taken]
  · exact ⟨h.toFreeArray.meetNotices, h.pairLocked.meetNotices taken⟩

theorem FreeSound.settleNotices {s : State} (h : FreeSound s) : FreeSound (settleNotices s) := by
  by_cases taken : s.passage.notices = .none
  · rwa [settleNotices_none taken]
  · exact ⟨h.toFreeArray.settleNotices, h.pairLocked.settleNotices taken⟩

/-- R161: a notice given leaves the pair that its write completes locked until it has been taken. -/
theorem FreeArray.giveNotice {s : State} (h : FreeArray s) (locked : PairLocked s) (a : Addr) (d : Word) :
    FreeSound (giveNotice a d s) := by
  have offered : FreeArray (s.setNotices (s.passage.notices.offer { addr := a, data := d })) :=
    ⟨h.port, h.reset, h.count, h.array⟩
  refine ⟨offered.meetNotices, PairLocked.meetNotices locked ?_⟩
  simp [Notices.offer, Notices.none]

/-! ### What is carried (R157 to R161) -/

theorem passageLeft_carryDRead (a : Addr) (x y : Coord) (s : State) : PassageLeft s (carryDRead a x y s) := by
  have fetched := PassageLeft.followFetch a (s.word a) (arrayRead a (presentBeam x y s))
  unfold carryDRead
  dsimp only
  refine (fetched.after (by simp)).before ?_
  split_ifs <;> simp

theorem mcyc_carryDRead (a : Addr) (x y : Coord) (s : State) : (carryDRead a x y s).pins.mcyc = .idle := by
  unfold carryDRead driveBD
  dsimp only
  split_ifs <;> simp <;> rfl

section
variable {s : State} (h : FreeSound s)
include h

theorem FreeSound.setLock (b : Bool) : FreeSound (setLock b s) := ⟨⟨h.port, h.reset, h.count, h.array⟩, nofun⟩

theorem FreeSound.breakLock (c : BusCycle) : FreeSound (breakLock c s) := by
  unfold Machine.breakLock
  split
  · exact h
  · exact h.setLock false

theorem FreeSound.countPassing (l : List OwnCycle) : FreeSound (countPassing l s) := by
  unfold Machine.countPassing
  split_ifs
  · exact h
  · exact ⟨⟨h.port, h.reset, min_le_left 8 _, h.array⟩, h.pair⟩

theorem FreeSound.meetResults : FreeSound (meetResults s) :=
  have left := BusLeft.meetResults s
  h.left left.passage (left.mcyc.trans h.array)

theorem FreeSound.meet : FreeSound (meet s) := h.meetNotices.meetResults

theorem FreeSound.carryPRead (a : Addr) : FreeSound (carryPRead a s) := h.left (.of_eq (by simp)) rfl

theorem FreeSound.carry (c : BusCycle) : FreeSound (carry c s) := by
  have written (a : Addr) (d : Word) {t : State} (ht : FreeArray t) (locked : PairLocked t) :
      FreeSound (carryPWrite a d t) := by
    refine FreeArray.giveNotice (ht.left (.of_eq (by simp)) rfl) ?_ a d
    simpa [PairLocked] using locked
  cases c with
  | dRead a x y => exact h.left (passageLeft_carryDRead a x y s) (mcyc_carryDRead a x y s)
  | pRead a => exact h.carryPRead a
  | pWrite a d => exact written a d h.toFreeArray h.pairLocked
  | lockedPRead a => exact (h.setLock true).carryPRead a
  | lockedPWrite a d => exact written a d ⟨h.port, h.reset, h.count, h.array⟩ id
  | idle => exact h

end

/-! ### The grant of an own cycle (R163 to R167) -/

theorem ownMayBeGranted_iff (s : State) : ownMayBeGranted s = true ↔
    portFree s = true ∧ s.passage.lockHeld = false ∧ NoticesTaken s := by
  simp [ownMayBeGranted, and_assoc]

/-- R167: the requests are those of the Consumption List, of the write-back and of the write-out. -/
theorem mem_ownRequests {s : State} {c : OwnCycle} : c ∈ ownRequests s ↔
    (∃ e ∈ s.pass.consumption, .consumption e.addr (consumptionWord e.extra) = c) ∨
    writeBackRequest s.tracker = some c ∨ writeOutRequest s.reports = some c := by
  simp [ownRequests]

theorem writeBackRequest_eq_some {t : Tracker} {c : OwnCycle} (h : writeBackRequest t = some c) :
    ∃ b, t.writeBack = some b ∧ b.granted = false ∧ c = .writeBack b.addr b.word := by
  unfold writeBackRequest at h
  split at h
  · rename_i b hb
    split_ifs at h with granted
    cases h
    exact ⟨b, hb, Bool.eq_false_of_not_eq_true granted, rfl⟩
  · cases h

theorem writeOutRequest_kind {w : ReportWriter} {c : OwnCycle} (h : writeOutRequest w = some c) :
    (∃ a, c = .claim a) ∨ (∃ a d, c = .fill a d) ∨ ∃ a d, c = .owner a d := by
  unfold writeOutRequest at h
  split at h
  · split at h <;> cases h
    · exact .inl ⟨_, rfl⟩
    · exact .inr (.inl ⟨_, _, rfl⟩)
    · exact .inr (.inr ⟨_, _, rfl⟩)
  · cases h

/-- R163: a granted request stays outstanding while its cycle is in progress. -/
theorem portSound_startOwn {s : State} {c : OwnCycle} (h : c ∈ ownRequests s) : PortSound (startOwn c s) c := by
  rcases mem_ownRequests.1 h with ⟨e, he, rfl⟩ | hw | hr
  · exact ⟨e, he, rfl, rfl⟩
  · obtain ⟨b, hb, _, rfl⟩ := writeBackRequest_eq_some hw
    refine ⟨{ b with granted := true }, ?_⟩
    simp [startOwn, markGranted, hb]
  · have kept : writeOutRequest (startOwn c s).reports = some c := by simpa using hr
    rcases writeOutRequest_kind hr with ⟨a, rfl⟩ | ⟨a, d, rfl⟩ | ⟨a, d, rfl⟩ <;> exact kept

theorem startOwn_passage (c : OwnCycle) (s : State) :
    (startOwn c s).passage = { s.passage with port := some c, fairShare := 0 } := by
  simp [startOwn]

theorem startOwn_pins (c : OwnCycle) (s : State) : (startOwn c s).pins = c.pins s.pins := by
  simp [startOwn]

theorem OwnCycle.pins_bwait (c : OwnCycle) (p : Pins) : (c.pins p).bwait = p.bwait := by
  cases c <;> rfl

theorem grantOwn_of_requests {s : State} {c : OwnCycle} {l : List OwnCycle} (h : ownRequests s = c :: l) :
    grantOwn s = startOwn c s := by
  simp only [grantOwn, h]

/-- R165: an own cycle is granted at a free port, with no lock held and no notice being taken. -/
theorem FreeSound.startOwn {s : State} (h : FreeSound s) (may : ownMayBeGranted s = true) {c : OwnCycle}
    (asked : c ∈ ownRequests s) : BusSound (startOwn c s) := by
  obtain ⟨_, unlocked, taken⟩ := (ownMayBeGranted_iff s).1 may
  have sound := portSound_startOwn asked
  constructor
  case port =>
    rw [startOwn_passage]
    rintro _ ⟨⟩
    exact sound
  case array =>
    rw [startOwn_passage, startOwn_pins]
    cases c <;> rfl
  all_goals rw [startOwn_passage]
  case count => exact Nat.zero_le 8
  case lock => simp [unlocked]
  case pair => exact h.pair
  case notices => exact fun taking => absurd taken taking
  case reset => simp [h.reset]

/-! ### The bus served (R157, R165) -/

theorem BusSound.setLock {s : State} (h : BusSound s) : BusSound (setLock false s) where
  count := h.count
  lock := nofun
  pair := nofun
  notices := h.notices
  reset := h.reset
  array := h.array
  port := h.port

theorem portFree_eq_false {s : State} (h : ¬portFree s = true) :
    s.passage.port ≠ none ∨ s.passage.resetInForce = true := by
  rw [portFree_iff, not_and_or, Bool.not_eq_false] at h
  exact h

/-- The serving of a list of cycles: carried at a free port, or behind an own cycle, or held at a busy one. -/
theorem serveBus_cons {c : BusCycle} (hc : c ≠ .idle) (l : List BusCycle) (s : State) : serveBus (c :: l) s =
    if portFree s then
      let t := meet (breakLock c s)
      if ownTurn t then hold (c :: l) (grantOwn t) else serveBus l (carry c (countPassing (ownRequests t) t))
    else hold (c :: l) s := by
  cases c with
  | idle => exact absurd rfl hc
  | _ => rfl

theorem serveCounting_cons (outstanding : List OwnCycle) {c : BusCycle} (hc : c ≠ .idle) (l : List BusCycle)
    (s : State) : serveCounting outstanding (c :: l) s =
    if portFree s then serveBus l (carry c (meetResults (countPassing outstanding (breakLock c s))))
    else hold (c :: l) s := by
  cases c with
  | idle => exact absurd rfl hc
  | _ => rfl

theorem ownTurn_iff (s : State) : ownTurn s = true ↔
    8 ≤ s.passage.fairShare ∧ ownRequests s ≠ [] ∧ ownMayBeGranted s = true := by
  simp [ownTurn, and_assoc]

theorem BusSound.serveBus {s : State} (h : BusSound s) (l : List BusCycle) : PassageSound (serveBus l s) := by
  induction l generalizing s with
  | nil => exact h.hold (by simp) (by simp)
  | cons c l ih =>
    by_cases hc : c = .idle
    · exact hc ▸ ih h.setLock
    have first : (c :: l).head? ≠ some .idle := by simpa using hc
    rw [serveBus_cons hc]
    split_ifs with free
    · have met : FreeSound (Machine.meet (Machine.breakLock c s)) := ((h.free free).breakLock c).meet
      dsimp only
      split_ifs with turn
      · obtain ⟨_, asked, may⟩ := (ownTurn_iff _).1 turn
        obtain ⟨o, rest, requests⟩ := List.exists_cons_of_ne_nil asked
        rw [grantOwn_of_requests requests]
        refine (met.startOwn may (by simp [requests])).hold (fun _ => .inl ?_) first
        simp [startOwn_passage]
      · exact ih ((met.countPassing _).carry c).bus
    · exact h.hold (fun _ => portFree_eq_false free) first

theorem BusSound.serveCounting {s : State} (h : BusSound s) (outstanding : List OwnCycle) (l : List BusCycle) :
    PassageSound (serveCounting outstanding l s) := by
  cases l with
  | nil => exact h.serveBus []
  | cons c l =>
    by_cases hc : c = .idle
    · exact hc ▸ h.serveBus (.idle :: l)
    rw [serveCounting_cons outstanding hc]
    split_ifs with free
    · have counted := ((h.free free).breakLock c).countPassing outstanding
      exact (counted.meetResults.carry c).bus.serveBus l
    · exact h.hold (fun _ => portFree_eq_false free) (by simpa using hc)

/-! ### The port fallen free (R164) -/

/-- While an own cycle is in progress the port is locked by nothing else (R160, R162, R169). -/
theorem BusSound.at_cycle {s : State} (h : BusSound s) {c : OwnCycle} (port : s.passage.port = some c) :
    s.passage.resetInForce = false ∧ s.passage.pairWritten = false := by
  have busy : s.passage.port ≠ none := by simp [port]
  refine ⟨Bool.eq_false_of_not_eq_true (busy ∘ h.reset), Bool.eq_false_of_not_eq_true fun pair => ?_⟩
  exact busy (h.lock (h.pair pair).1).1

/-- An own cycle over: the port is free once the array is idle. -/
theorem BusSound.fallen {s t : State} (h : BusSound s) {c : OwnCycle} (port : s.passage.port = some c)
    (left : PassageLeft s t) (array : t.pins.mcyc = .idle) :
    FreeSound (t.setPassage { t.passage with port := none }) := by
  obtain ⟨reset, pair⟩ := h.at_cycle port
  constructor
  case toFreeArray => exact ⟨rfl, left.same.port.2.2.trans reset, left.count.trans h.count, array⟩
  case pair => simp [PairNoticed, left.same.pairWritten, pair]

theorem BusSound.freePort {s t : State} (h : BusSound s) {c : OwnCycle} (port : s.passage.port = some c)
    (left : PassageLeft s t) (array : t.pins.mcyc = .idle) : PassageSound (freePort t) :=
  (h.fallen port left array).bus.serveCounting _ _

theorem BusSound.freePortWriteOut {s t : State} (h : BusSound s) {c : OwnCycle} (port : s.passage.port = some c)
    (left : PassageLeft s t) (array : t.pins.mcyc = .idle) : PassageSound (freePortWriteOut t) :=
  (h.fallen port (left.before (u := afterDraw t) rfl) array).bus.serveCounting _ _

/-! ### What is met, and the passing of time -/

theorem PassageSound.of_notices {s t : State} (h : PassageSound s) (same : SameBesideNotices s t)
    (met : portFree s = true → FreeSound t) (unmet : s.passage.notices = .none → t = s) : PassageSound t := by
  by_cases free : portFree s = true
  · obtain ⟨_, pins, _, _, _, _, _, _, _, _, port, held, reset⟩ := same
    have sound := (met free).bus
    constructor
    case wait => rw [pins, held]; exact h.wait
    case held => rw [held, port, reset]; exact h.held
    case first => rw [held]; exact h.first
    case count => exact sound.count
    case lock => exact sound.lock
    case pair => exact sound.pair
    case notices => exact sound.notices
    case reset => exact sound.reset
    case array => exact sound.array
    case port => exact sound.port
  · have taken : s.passage.notices = .none := by
      by_contra taking
      exact free ((portFree_iff s).2 (h.notices taking))
    rwa [unmet taken]

theorem PassageSound.meetNotices {s : State} (h : PassageSound s) : PassageSound (meetNotices s) :=
  h.of_notices (meetNotices_beside s) (fun free => (h.bus.free free).meetNotices) meetNotices_none

theorem PassageSound.settleNotices {s : State} (h : PassageSound s) : PassageSound (settleNotices s) :=
  h.of_notices (settleNotices_beside s) (fun free => (h.bus.free free).settleNotices) settleNotices_none

theorem PassageSound.meet {s : State} (h : PassageSound s) : PassageSound (meet s) :=
  h.meetNotices.left (.meetResults _)

/-- R165: an own grant with no cycle waiting, or at a count of 8. -/
theorem PassageSound.grantOwn {s : State} (h : PassageSound s) (may : ownMayBeGranted s = true) :
    PassageSound (grantOwn s) := by
  cases requests : ownRequests s with
  | nil => rwa [Machine.grantOwn, requests]
  | cons c l =>
    obtain ⟨free, _⟩ := (ownMayBeGranted_iff s).1 may
    have sound := (h.bus.free free).startOwn may (c := c) (by simp [requests])
    rw [grantOwn_of_requests requests]
    refine { sound with wait := ?_, held := ?_, first := ?_ }
    · rw [startOwn_pins, OwnCycle.pins_bwait, startOwn_passage]
      exact h.wait
    · rw [startOwn_passage]
      exact fun _ => .inl nofun
    · rw [startOwn_passage]
      exact h.first

theorem PassageSound.tick {s : State} (h : PassageSound s) : PassageSound (tick s) := by
  have taken := (h.settleNotices.left (.takeEarlierResults _)).left (.takeChanges _)
  exact taken.left (.of_same rfl ⟨rfl, rfl⟩ rfl rfl rfl)

theorem PassageSound.takeDue {s : State} (h : PassageSound s) (e : DueEvent) (due : isDue s e = true) :
    PassageSound (takeDue (afterDraw s) e) := by
  have drawn : PassageSound (afterDraw s) := h.left (.afterDraw s)
  cases e with
  | repetition => exact drawn.left (.repetitionExpires _)
  | discard => exact drawn.left (.of_same rfl ⟨rfl, rfl⟩ rfl rfl rfl)
  | debounce => exact drawn.left (.debounceExpires _)
  | frameTimeout => exact drawn.left (.timeoutExpires _)
  | ownGrant =>
    simp only [isDue, Bool.and_eq_true] at due
    exact drawn.grantOwn due.1.1

theorem PassageSound.idle {s : State} (h : PassageSound s) : PassageSound (idle s) := by
  have met := h.meet
  unfold Machine.idle
  generalize Machine.meet s = s at met
  dsimp only
  split
  · exact met.tick
  · have drawn : PassageSound (afterDraw s) := met.left (.afterDraw s)
    unfold idleIn
    split
    · rename_i e rest order
      have listed : e ∈ dueEvents s := (permute_perm _ _).mem_iff.1 (order ▸ List.mem_cons_self)
      exact met.takeDue e (List.mem_filter.1 listed).2
    · exact drawn.tick

/-! ### Resets (R169, R170) -/

theorem passageSound_powerUp (v : BitVec 4) (s : State) : PassageSound (powerUpState v s) where
  count := Nat.zero_le 8
  wait := rfl
  held := absurd rfl
  first := nofun
  lock := nofun
  pair := nofun
  notices := absurd rfl
  reset _ := rfl
  array := rfl
  port := nofun

theorem finishOwn_mcyc {s : State} (h : BusSound s) : (finishOwn s).pins.mcyc = .idle := by
  have array := h.array
  unfold finishOwn
  split
  · rename_i port
    rw [port] at array
    exact array
  all_goals rfl

theorem busSound_initState {s : State} (h : BusSound s) (v : BitVec 4) : BusSound (initState v (finishOwn s)) := by
  have passage : (finishOwn s).passage = s.passage := by simp
  constructor
  case array => exact finishOwn_mcyc h
  case count => exact Nat.zero_le 8
  case lock => exact nofun
  case pair => exact nofun
  case notices =>
    intro taking
    change (finishOwn s).passage.notices ≠ .none at taking
    rw [passage] at taking
    refine ⟨rfl, ?_⟩
    change (finishOwn s).passage.resetInForce = false
    rw [passage]
    exact (h.notices taking).2
  case reset => exact fun _ => rfl
  case port => exact nofun

theorem busSound_initAmongRequests {s : State} (h : BusSound s) (v : BitVec 4) :
    BusSound (initAmongRequests v (finishOwn s)) := by
  have sound := busSound_initState h v
  have port : (initState v (finishOwn s)).passage.port = none := rfl
  unfold initAmongRequests
  split_ifs
  · exact sound
  · generalize initState v (finishOwn s) = t at sound port
    generalize Moment.afterInit _ _ = m
    have passage : (takeRequests m (afterDraw t)).passage = t.passage := by simp
    constructor
    case array => simpa [passage] using sound.array
    case port => rw [passage, port]; exact nofun
    all_goals rw [passage]
    case count => exact sound.count
    case lock => exact sound.lock
    case pair => exact sound.pair
    case notices => exact sound.notices
    case reset => exact sound.reset

theorem passageSound_init {s : State} (h : PassageSound s) (v : BitVec 4) : PassageSound (initPart v s) := by
  have sound := busSound_initAmongRequests h.bus v
  unfold initPart serveAfterInit
  generalize initAmongRequests v (finishOwn s) = t at sound
  split_ifs
  · exact sound.serveBus _
  all_goals exact BusSound.serveCounting (s := afterDraw t) { sound with } _ _

theorem passageSound_endPowerUpReset {s : State} (h : PassageSound s) (reset : s.passage.resetInForce = true) :
    PassageSound (endPowerUpReset s) := by
  have port := h.reset reset
  have pair : ¬s.passage.pairWritten = true := fun hp => by
    have unlocked := (h.lock (h.pair hp).1).2
    rw [reset] at unlocked
    cases unlocked
  have array := h.array
  rw [port] at array
  have free : FreeSound (s.setPassage { s.passage with resetInForce := false }) :=
    ⟨⟨port, rfl, h.count, array⟩, fun hp => absurd hp pair⟩
  exact free.bus.serveBus _

/-! ### Commands and steps -/

theorem PassageSound.present {s : State} (h : PassageSound s) (c : BusCycle) : PassageSound (present c s) :=
  h.bus.serveBus _

theorem PassageSound.exec {s t : State} (h : PassageSound s) (c : Instr) (ht : exec c s = .next t) :
    PassageSound t := by
  cases c with
  | powerUp v => cases ht; exact passageSound_powerUp v s
  | busInit v => cases ht; exact passageSound_init h.meet v
  | dRead a x y => cases ht; exact h.present _
  | pRead a => cases ht; exact h.present _
  | pWrite a d => cases ht; exact h.present _
  | lockedPRead a => cases ht; exact h.present _
  | lockedPWrite a d => cases ht; exact h.present _
  | idleCycle => cases ht; exact h.present _
  | ownCycleGrant =>
    cases ht
    split_ifs with granted
    · simp only [Bool.and_eq_true] at granted
      exact h.settleNotices.grantOwn granted.1.1
    · exact h
  | consumptionWritePlaced =>
    cases ht
    split
    · exact h.bus.freePort ‹_› (.of_eq (by simp)) rfl
    · exact h
  | writeBackPlaced =>
    cases ht
    split
    · exact h.bus.freePort ‹_› (.of_eq (by simp)) (by simp; rfl)
    · exact h
  | claimReadComplete =>
    cases ht
    split
    · exact h.bus.freePortWriteOut ‹_› (.of_eq (by simp)) (by simp; rfl)
    · exact h
  | fillWritePlaced =>
    cases ht
    split
    · exact h.bus.freePortWriteOut ‹_› (.of_eq (by simp)) (by simp; rfl)
    · exact h
  | ownerWordWritePlaced =>
    cases ht
    split
    · exact h.bus.freePortWriteOut ‹_› ((PassageLeft.ownerAnswered _).after (by simp)) (by simp; rfl)
    · exact h
  | photoEdge x y =>
    cases ht
    exact (h.meet.left (t := presentBeam x y _) (.of_same rfl ⟨rfl, rfl⟩ rfl rfl rfl)).left (.photoChange _)
  | repetitionIntervalExpiry x y =>
    cases ht
    split_ifs
    · exact (h.meet.left (t := presentBeam x y _) (.of_same rfl ⟨rfl, rfl⟩ rfl rfl rfl)).left (.repetitionExpires _)
    · exact h.left (.of_same rfl ⟨rfl, rfl⟩ rfl rfl rfl)
  | lastStrikeRecordDiscard => cases ht; exact h.left (.ite (.of_same rfl ⟨rfl, rfl⟩ rfl rfl rfl) (.refl s))
  | pinhChange =>
    cases ht
    exact h.left (.of_same (by simp) (by unfold pinhChanges; dsimp only; split_ifs <;> exact ⟨rfl, rfl⟩) (by simp)
      (by simp) (by simp))
  | tipChange => cases ht; exact h.left (.of_same rfl ⟨rfl, rfl⟩ rfl rfl rfl)
  | debounceExpiry =>
    cases ht
    split_ifs
    · exact h.meet.left (.debounceExpires _)
    · exact h
  | frameTimeoutExpiry =>
    cases ht
    split_ifs
    · exact h.meet.left (.timeoutExpires _)
    · exact h
  | gateCloseByLength =>
    cases ht
    split_ifs
    · exact h.meet.left (.closeByLength _)
    · exact h
  | dwellReport =>
    cases ht
    split_ifs
    · exact h.meet.left (.dwellReport _)
    · exact h
  | trackLost =>
    cases ht
    split_ifs
    · exact h.meet.left (.goLost _ _)
    · exact h
  | itemEchoExpiry => cases ht; exact h.left (.of_same (by simp) (by simp) (by simp) (by simp) (by simp))
  | powerUpResetEnd =>
    cases ht
    split_ifs with reset
    · exact passageSound_endPowerUpReset h reset
    · exact h

/-- Settles O60: the command at the front by its case, and the idle step by the event it takes. -/
theorem stepKeepsPassageSound : Obligations.StepKeepsPassageSound := by
  intro s t h ht
  unfold step at ht
  split at ht
  · rename_i c rest _
    have taken : PassageSound (s.setPending rest) := h.left (.of_same rfl ⟨rfl, rfl⟩ rfl rfl rfl)
    exact taken.exec c ht
  · cases ht
    exact h.idle

end Sys2Proof.Machine
end

section
/-! # What is carried does not see the cycles that wait (R157)

Nothing of the part reads the list of the cycles held in BWAIT, nor the line itself. An operation gives the same state
whatever cycles wait, but for those cycles: it commutes with `hold`. -/

namespace Sys2Proof.Machine

/-- An operation that gives the same whatever cycles wait behind it. -/
abbrev Unseeing (f : State → State) : Prop := ∀ l s, f (hold l s) = hold l (f s)

/-! ### The block updates -/

theorem hold_updates (l : List BusCycle) (s : State) :
    (∀ x, (hold l s).setFollower x = hold l (s.setFollower x)) ∧ (∀ x, (hold l s).setPass x = hold l (s.setPass x)) ∧
    (∀ x, (hold l s).setSegments x = hold l (s.setSegments x)) ∧ (∀ x, (hold l s).setPen x = hold l (s.setPen x)) ∧
    (∀ x, (hold l s).setMenuMap x = hold l (s.setMenuMap x)) ∧ (∀ x, (hold l s).setGate x = hold l (s.setGate x)) ∧
    (∀ x, (hold l s).setLoft x = hold l (s.setLoft x)) ∧ (∀ x, (hold l s).setTracker x = hold l (s.setTracker x)) ∧
    (∀ x, (hold l s).setEcho x = hold l (s.setEcho x)) ∧ (∀ x, (hold l s).setReports x = hold l (s.setReports x)) ∧
    (∀ x, (hold l s).setHanded x = hold l (s.setHanded x)) ∧ (∀ x, (hold l s).setMoment x = hold l (s.setMoment x)) ∧
    (∀ x, (hold l s).setChoices x = hold l (s.setChoices x)) ∧
    (∀ x, (hold l s).setNotices x = hold l (s.setNotices x)) :=
  ⟨fun _ => rfl, fun _ => rfl, fun _ => rfl, fun _ => rfl, fun _ => rfl, fun _ => rfl, fun _ => rfl, fun _ => rfl,
    fun _ => rfl, fun _ => rfl, fun _ => rfl, fun _ => rfl, fun _ => rfl, fun _ => rfl⟩

theorem ownRequests_hold (l : List BusCycle) (s : State) : ownRequests (hold l s) = ownRequests s := rfl

theorem hold_notices (l : List BusCycle) (s : State) : (hold l s).passage.notices = s.passage.notices := rfl

theorem hold_hold (l m : List BusCycle) (s : State) : hold l (hold m s) = hold l s := rfl

theorem unseeing_foldl {α : Type} {f : State → α → State} (hf : ∀ x, Unseeing (fun s => f s x)) (m : List α) :
    Unseeing (fun s => m.foldl f s) := by
  intro l s
  induction m generalizing s with
  | nil => rfl
  | cons x m ih =>
    have hx : f (hold l s) x = hold l (f s x) := hf x l s
    simp only [List.foldl_cons, hx]
    exact ih _

theorem unseeing_takeOldest {α : Type} {react : α → State → State} (hr : ∀ x, Unseeing (react x)) (n : Nat)
    (q : List α) : Unseeing (takeOldest n q react) := unseeing_foldl hr (q.take n)

theorem unseeing_afterDraw : Unseeing afterDraw := fun _ _ => rfl

theorem unseeing_takeSome {take : Nat → State → State} (ht : ∀ n, Unseeing (take n)) (length : Nat) :
    Unseeing (takeSome length take) := by
  intro l s
  simp only [takeSome, unseeing_afterDraw l s, ht _ l]
  split <;> rfl

/-! ### Reports (R186 to R197) -/

theorem unseeing_takeNext : Unseeing takeNext := by
  intro l s
  simp only [takeNext, hold_frame]
  split <;> rfl

theorem unseeing_requestReport (r : Report) : Unseeing (requestReport r) := by
  intro l s
  simp only [requestReport, handReport, hold_frame, hold_updates, unseeing_takeNext l]

theorem unseeing_afterWithdrawal : Unseeing afterWithdrawal := by
  intro l s
  unfold afterWithdrawal
  by_cases h : ownRequests s = []
  · rw [if_pos h, if_pos (show ownRequests (hold l s) = [] from h)]
    rfl
  · rw [if_neg h, if_neg (show ¬ownRequests (hold l s) = [] from h)]

theorem unseeing_enterWaiting (o : WriteOut) : Unseeing (enterWaiting o) := fun _ _ => rfl

theorem unseeing_enterClaim (r : Report) (i : Nat) : Unseeing (enterClaim r i) := fun _ _ => rfl

theorem unseeing_applyRing (r : Ring) : Unseeing (applyRing r) := by
  intro l s
  simp only [applyRing, hold_frame, hold_updates, unseeing_takeNext l, unseeing_enterWaiting _ l,
    unseeing_afterWithdrawal l, unseeing_enterClaim _ _ l]
  split
  · rfl
  · split <;> rfl

theorem unseeing_afterFill : Unseeing afterFill := by
  intro l s
  simp only [afterFill, hold_frame, hold_updates, unseeing_applyRing _ l]
  split
  · split <;> rfl
  · rfl

theorem unseeing_reportsNotice (a : Addr) (d : Word) : Unseeing (reportsNotice a d) := by
  intro l s
  simp only [reportsNotice, hold_frame, hold_updates, unseeing_enterWaiting _ l, unseeing_afterWithdrawal l,
    unseeing_enterClaim _ _ l, unseeing_afterFill l]
  split
  · rfl
  · split
    · split
      · rfl
      · split
        · split <;> rfl
        · rfl
    · split
      · split
        · rfl
        · split <;> rfl
      · rfl

theorem unseeing_reportsFrameEnd : Unseeing reportsFrameEnd := by
  intro l s
  simp only [reportsFrameEnd, hold_frame, hold_updates, unseeing_applyRing _ l]
  split
  · rfl
  · split <;> rfl

/-! ### The Echo Unit and the Segment Table (R52 to R61, R171 to R181) -/

theorem unseeing_echoDropped (names : List Name) : Unseeing (echoDropped names) := by
  intro l s
  simp only [echoDropped, hold_frame, hold_updates]
  split
  · split <;> rfl
  · rfl

theorem unseeing_echoFrameEnd : Unseeing echoFrameEnd := by
  intro l s
  simp only [echoFrameEnd, itemEchoRunOut, hold_frame, hold_updates]
  split
  · split <;> rfl
  · rfl

theorem unseeing_createSegment (e : Segment) (a : Addr) : Unseeing (createSegment e a) := by
  intro l s
  have same : victim (hold l s) = victim s := rfl
  simp only [createSegment, hold_frame, hold_updates, same, unseeing_requestReport _ l]
  split
  · rfl
  · split
    · rfl
    · split <;> rfl

theorem unseeing_segmentSetup (n : Name) (c : Option CommonFields) (m : Option (Glyph × Trigger)) (a : Addr) :
    Unseeing (segmentSetup n c m a) := by
  intro l s
  simp only [segmentSetup, hold_frame, hold_updates, unseeing_createSegment _ _ l]
  split <;> rfl

/-! ### The Gate Unit (R101 to R118) -/

theorem unseeing_castVote (g : OpenGate) (w : Winner) : Unseeing (castVote g w) := by
  intro l s
  simp only [castVote, hold_frame, hold_updates]
  split
  · rfl
  · split <;> rfl

theorem unseeing_dwellTake (w : Winner) : Unseeing (dwellTake w) := by
  intro l s
  have same : isDwellWinner w (hold l s) = isDwellWinner w s := rfl
  simp only [dwellTake, same]
  split <;> rfl

theorem unseeing_hoverTake (w : Winner) : Unseeing (hoverTake w) := by
  intro l s
  simp only [hoverTake, hold_frame, hold_updates]
  split
  · split <;> rfl
  · rfl

theorem unseeing_gateWinner (w : Winner) : Unseeing (gateWinner w) := by
  intro l s
  simp only [gateWinner, hold_frame, unseeing_castVote _ _ l, unseeing_dwellTake _ l]
  split
  · split <;> exact unseeing_hoverTake w l _
  · exact unseeing_hoverTake w l _

theorem unseeing_afterPick (k : Key) (p : Snapshot) : Unseeing (afterPick k p) := by
  intro l s
  simp only [afterPick]
  split
  · rfl
  · split
    · rfl
    · split <;> rfl
    · rfl

theorem unseeing_closeDeciding (b : Bool) : Unseeing (closeDeciding b) := by
  intro l s
  simp only [closeDeciding, decideGate, hold_frame, unseeing_requestReport _ l, unseeing_afterPick _ _ l]
  split
  · split <;> rfl
  · rfl

theorem unseeing_closeByLength : Unseeing closeByLength := by
  intro l s
  simp only [closeByLength, hold_frame, unseeing_closeDeciding _ l]
  split
  · split <;> rfl
  · rfl

theorem unseeing_dwellReport : Unseeing dwellReport := by
  intro l s
  simp only [dwellReport, hold_frame, hold_updates, unseeing_requestReport _ l, unseeing_afterPick _ _ l]
  split
  · split <;> rfl
  · rfl

theorem unseeing_raiseGateCount : Unseeing raiseGateCount := by
  intro l s
  simp only [raiseGateCount, hold_frame, hold_updates]
  split <;> rfl

theorem unseeing_dwellFrameEnd : Unseeing dwellFrameEnd := by
  intro l s
  simp only [dwellFrameEnd, hold_frame, hold_updates, unseeing_dwellReport l]
  split <;> rfl

theorem unseeing_gateFrameEnd : Unseeing gateFrameEnd := by
  intro l s
  simp only [gateFrameEnd, unseeing_raiseGateCount l, unseeing_closeByLength l, unseeing_dwellFrameEnd l]
  rfl

/-! ### The Tracking Unit (R140 to R154) -/

theorem unseeing_trackMove (a : Addr) (w : Word) (n : Name) : Unseeing (trackMove a w n) := by
  intro l s
  simp only [trackMove, hold_frame, hold_updates]
  split <;> rfl

theorem unseeing_trackNotice (a : Addr) : Unseeing (trackNotice a) := by
  intro l s
  simp only [trackNotice, hold_frame, hold_updates, unseeing_afterWithdrawal l]
  split
  · split <;> rfl
  · rfl

theorem unseeing_requestTrack (b : Bool) (view : ViewSettings) : Unseeing (requestTrack b view) := by
  intro l s
  simp only [requestTrack, hold_frame, hold_updates, unseeing_requestReport _ l]
  rfl

theorem unseeing_trackSighting : Unseeing trackSighting := by
  intro l s
  simp only [trackSighting, hold_frame, hold_updates]
  split <;> rfl

theorem unseeing_trackCross (x y : Coord) : Unseeing (trackCross x y) := by
  intro l s
  simp only [trackCross, hold_frame, hold_updates, unseeing_requestTrack _ _ l]
  split
  · rfl
  · split <;> rfl

theorem unseeing_offerWriteBack : Unseeing offerWriteBack := by
  intro l s
  simp only [offerWriteBack, requestWriteBack, hold_frame, hold_updates, unseeing_afterWithdrawal l]
  split
  · split
    · split
      · split <;> rfl
      · rfl
    · rfl
  · rfl

theorem unseeing_endRun (r : EndReason) : Unseeing (endRun r) := by
  intro l s
  simp only [endRun, hold_frame, hold_updates, unseeing_requestReport _ l, unseeing_offerWriteBack l]
  split <;> rfl

theorem unseeing_trackFrameEnd (view : ViewSettings) : Unseeing (trackFrameEnd view) := by
  have count : Unseeing countLoss := by
    intro l s
    simp only [countLoss, hold_frame, hold_updates]
    split <;> rfl
  have lost : Unseeing (goLost view) := by
    intro l s
    simp only [goLost, hold_frame, hold_updates, unseeing_requestReport _ l]
    split <;> rfl
  have frame : Unseeing (frameTrack view) := by
    intro l s
    simp only [frameTrack, hold_frame, unseeing_requestTrack _ _ l]
    split <;> rfl
  intro l s
  simp only [trackFrameEnd, count l, lost l, frame l]
  rfl

/-! ### PASS orders (R30 to R43) -/

theorem unseeing_refuseProtected (a : Addr) : Unseeing (refuseProtected a) := by
  intro l s
  simp only [refuseProtected, hold_frame, hold_updates, unseeing_requestReport _ l]
  split <;> rfl

theorem unseeing_passRing (ws : List Word) (a : Addr) : Unseeing (passRing ws a) := by
  intro l s
  simp only [passRing, hold_frame, unseeing_requestReport _ l]
  split
  · split <;> rfl
  · rfl

/-- A command's effect or its refusal, whatever cycles wait. -/
theorem commandEffect_hold (p : BitVec 12) (ws : List Word) (a : Addr) (l : List BusCycle) (s : State) :
    commandEffect p ws a (hold l s) = (commandEffect p ws a s).map (hold l) := by
  have start : startTrackPosition ws (hold l s) = startTrackPosition ws s := rfl
  simp only [commandEffect, hold_frame, start, unseeing_endRun _ l, unseeing_requestReport _ l]
  split
  · split <;> rfl
  · split <;> rfl
  · rfl
  · rfl
  · split
    · split
      · rfl
      · split <;> rfl
    · rfl
  all_goals rfl

theorem unseeing_actOnCommand (p : BitVec 12) (ws : List Word) (a : Addr) : Unseeing (actOnCommand p ws a) := by
  intro l s
  simp only [actOnCommand, commandEffect_hold, unseeing_requestReport _ l]
  cases commandEffect p ws a s <;> rfl

theorem unseeing_passCommand (p : BitVec 12) (e : Nat) (ws : List Word) (a : Addr) :
    Unseeing (passCommand p e ws a) := by
  intro l s
  simp only [passCommand, hold_frame, unseeing_actOnCommand _ _ _ l]
  split
  · rfl
  · split <;> rfl

theorem unseeing_passOpen (n : Nat) (p : BitVec 12) (e : Nat) (ws : List Word) (a : Addr) :
    Unseeing (passOpen n p e ws a) := by
  intro l s
  simp only [passOpen, passName, passSegment, passReadout, unseeing_segmentSetup _ _ _ _ l,
    unseeing_passCommand _ _ _ _ l]
  split
  · split <;> rfl
  · split <;> rfl
  · split <;> rfl
  all_goals rfl

theorem unseeing_handOff (a : Addr) (e n : Nat) (p : BitVec 12) (ws : List Word) : Unseeing (handOff a e n p ws) := by
  intro l s
  simp only [handOff, passSystem, hold_frame, unseeing_passOpen _ _ _ _ _ l, unseeing_passRing _ _ l,
    unseeing_refuseProtected _ l]
  split
  · rfl
  · split
    · split <;> rfl
    · rfl
  · rfl

theorem unseeing_passNotice (a : Addr) : Unseeing (passNotice a) := by
  intro l s
  simp only [passNotice, hold_frame, hold_updates, unseeing_afterWithdrawal l]
  split <;> rfl

/-! ### A fetch (R3 to R25, R159) -/

theorem unseeing_frameEndAt (x : FrameFacts) (e : FrameTaker) : Unseeing (fun s => frameEndAt x s e) := by
  intro l s
  cases e with
  | follower =>
    simp only [frameEndAt, unseeing_requestReport _ l]
    split <;> rfl
  | segments => exact unseeing_echoDropped _ l s
  | gate => exact unseeing_gateFrameEnd l s
  | tracker => exact unseeing_trackFrameEnd _ l s
  | echo => exact unseeing_echoFrameEnd l s
  | reports => exact unseeing_reportsFrameEnd l s

theorem unseeing_frameEnd (a : Addr) : Unseeing (frameEnd a) := fun l s =>
  unseeing_foldl (unseeing_frameEndAt (frameFacts a (afterDraw s))) (permute (drawn s) frameTakers) l
    (frameEndQuiet (afterDraw s))

theorem unseeing_completeOrder (a : Addr) (o : Order) (ws : List Word) (last : Addr) :
    Unseeing (completeOrder a o ws last) := by
  have applied : Unseeing (applyOrder a o ws) := by
    intro l s
    simp only [applyOrder]
    split
    · split
      · exact unseeing_handOff _ _ _ _ _ l (s.setFollower (s.follower.applyName _))
      · exact unseeing_handOff _ _ _ _ _ l s
    · rfl
  intro l s
  simp only [completeOrder, applied l, hold_frame, hold_updates]
  split <;> rfl

theorem unseeing_recordVisible (a : Addr) (o : Order) : Unseeing (recordVisible a o) := by
  intro l s
  simp only [recordVisible]
  split <;> rfl

theorem unseeing_handOrderWord (a : Addr) (w : Word) (o : Order) : Unseeing (handOrderWord a w o) := by
  intro l s
  have same : menuNow o (hold l s) = menuNow o s := rfl
  simp only [handOrderWord, same]
  split
  · exact unseeing_trackMove _ _ _ l s
  · split <;> rfl
  · rfl

theorem unseeing_followOrder (a : Addr) (w : Word) (o : Order) : Unseeing (followOrder a w o) := by
  intro l s
  simp only [followOrder, unseeing_recordVisible _ _ l, unseeing_handOrderWord _ _ _ l]
  split
  · exact unseeing_completeOrder _ _ _ _ l _
  · rfl

/-- A fetch that gives the same state and the same decode context whatever cycles wait. -/
abbrev UnseeingFetch (f : State → State × DecodeContext) : Prop := ∀ l s, f (hold l s) = (hold l (f s).1, (f s).2)

theorem unseeing_fetchOrderWord (a : Addr) (w : Word) : UnseeingFetch (fetchOrderWord a w) := by
  intro l s
  have context : orderContext a (decodeOrder w) (hold l s) = orderContext a (decodeOrder w) s := rfl
  simp only [fetchOrderWord, followRestart, enterLost, context, hold_frame, hold_updates, unseeing_frameEnd _ l,
    unseeing_requestReport _ l, unseeing_followOrder _ _ _ l]
  split
  · rfl
  · split
    · split <;> rfl
    · rfl

theorem unseeing_fetchOperandWord (p : InProgress) (a : Addr) (w : Word) :
    UnseeingFetch (fetchOperandWord p a w) := by
  have chars : Unseeing (recordChars p) := by
    intro l s
    simp only [recordChars]
    split <;> rfl
  have hand : Unseeing (handOperand p w) := by
    intro l s
    simp only [handOperand]
    split <;> rfl
  intro l s
  simp only [fetchOperandWord, chars l, hand l, hold_frame, hold_updates, unseeing_completeOrder _ _ _ _ l]
  split <;> rfl

theorem unseeing_followFetch (a : Addr) (w : Word) : UnseeingFetch (followFetch a w) := by
  intro l s
  simp only [followFetch, resyncAt, enterLost, hold_frame, hold_updates, unseeing_frameEnd _ l,
    unseeing_requestReport _ l, unseeing_fetchOrderWord _ _ l, unseeing_fetchOperandWord _ _ _ l]
  split
  · split
    · split <;> rfl
    · rfl
  all_goals split <;> rfl

/-- The word delivered is the same too. -/
theorem deliver_hold (c : DecodeContext) (w : Word) (l : List BusCycle) (s : State) :
    deliver c w (hold l s) = ((deliver c w s).1, hold l (deliver c w s).2) := by
  have looked : examined c (hold l s) = examined c s := rfl
  simp only [deliver, deliverOrderWord, deliverOperand, looked, hold_frame]
  split
  · split
    · split <;> rfl
    · split
      · split
        · rfl
        · split
          · rfl
          · split <;> rfl
      · rfl
  · rfl

theorem unseeing_carryDRead (a : Addr) (x y : Coord) : Unseeing (carryDRead a x y) := by
  intro l s
  have fetched := unseeing_followFetch a (s.word a) l (arrayRead a (presentBeam x y s))
  have read : arrayRead a (presentBeam x y (hold l s)) = hold l (arrayRead a (presentBeam x y s)) := rfl
  have looked (c : DecodeContext) (t : State) : judged c (hold l t) = judged c t := rfl
  have word : (hold l s).word a = s.word a := rfl
  simp only [carryDRead, word, read, fetched, deliver_hold, looked]
  split <;> rfl

/-! ### What is met (assumption logs 8 and 25) -/

theorem unseeing_endPair : Unseeing endPair := by
  intro l s
  have written : (hold l s).passage.pairWritten = s.passage.pairWritten := rfl
  simp only [endPair, written, hold_notices]
  split <;> rfl

theorem unseeing_followerTakes (n : Nat) : Unseeing (followerTakes n) := by
  intro l s
  simp only [followerTakes, hold_notices, hold_updates]
  exact unseeing_takeOldest (fun _ _ _ => rfl) n _ l _

theorem unseeing_menuTakes (n : Nat) : Unseeing (menuTakes n) := by
  intro l s
  simp only [menuTakes, hold_notices, hold_updates]
  exact unseeing_takeOldest (fun _ _ _ => rfl) n _ l _

theorem unseeing_gateTakes (n : Nat) : Unseeing (gateTakes n) := by
  intro l s
  simp only [gateTakes, hold_notices, hold_updates]
  exact unseeing_takeOldest (fun _ _ _ => rfl) n _ l _

theorem unseeing_passTakes (n : Nat) : Unseeing (passTakes n) := by
  intro l s
  simp only [passTakes, hold_notices, hold_updates]
  exact unseeing_takeOldest (fun x : Notice => unseeing_passNotice x.addr) n _ l _

theorem unseeing_trackerTakes (n : Nat) : Unseeing (trackerTakes n) := by
  intro l s
  simp only [trackerTakes, hold_notices, hold_updates]
  exact unseeing_takeOldest (fun x : Notice => unseeing_trackNotice x.addr) n _ l _

theorem unseeing_reportsTakes (n : Nat) : Unseeing (reportsTakes n) := by
  intro l s
  simp only [reportsTakes, hold_notices, hold_updates]
  exact unseeing_takeOldest (fun x : Notice => unseeing_reportsNotice x.addr x.data) n _ l _

theorem unseeing_meetNotices : Unseeing meetNotices := by
  intro l s
  simp only [meetNotices, hold_notices, unseeing_takeSome unseeing_followerTakes _ l,
    unseeing_takeSome unseeing_menuTakes _ l, unseeing_takeSome unseeing_gateTakes _ l,
    unseeing_takeSome unseeing_passTakes _ l, unseeing_takeSome unseeing_trackerTakes _ l,
    unseeing_takeSome unseeing_reportsTakes _ l, unseeing_endPair l]
  split <;> rfl

theorem unseeing_giveNotice (a : Addr) (d : Word) : Unseeing (giveNotice a d) :=
  fun l s => unseeing_meetNotices l (s.setNotices (s.passage.notices.offer { addr := a, data := d }))

theorem unseeing_takeCross (r : CrossHandOff) : Unseeing (takeCross r) := by
  cases r
  · exact unseeing_trackCross _ _
  · exact unseeing_trackSighting

theorem unseeing_gateResultsTake (n : Nat) : Unseeing (gateResultsTake n) := by
  intro l s
  simp only [gateResultsTake, hold_frame, hold_updates]
  exact unseeing_takeOldest unseeing_gateWinner n _ l _

theorem unseeing_crossResultsTake (n : Nat) : Unseeing (crossResultsTake n) := by
  intro l s
  simp only [crossResultsTake, hold_frame, hold_updates]
  exact unseeing_takeOldest unseeing_takeCross n _ l _

theorem unseeing_meetResults : Unseeing meetResults := by
  intro l s
  simp only [meetResults, hold_frame, unseeing_takeSome unseeing_gateResultsTake _ l,
    unseeing_takeSome unseeing_crossResultsTake _ l]
  split <;> rfl

theorem unseeing_meet : Unseeing meet := by
  intro l s
  simp only [meet, unseeing_meetNotices l, unseeing_meetResults l]

/-! ### What is carried, and the bus served -/

theorem unseeing_carry (c : BusCycle) : Unseeing (carry c) := by
  intro l s
  cases c with
  | dRead a x y => exact unseeing_carryDRead a x y l s
  | pRead a => rfl
  | pWrite a d => exact unseeing_giveNotice a d l (arrayWrite a d s)
  | lockedPRead a => rfl
  | lockedPWrite a d => exact unseeing_giveNotice a d l (arrayWrite a d (closePair s))
  | idle => rfl

theorem unseeing_breakLock (c : BusCycle) : Unseeing (breakLock c) := by
  intro l s
  cases c <;> rfl

theorem unseeing_countPassing (outstanding : List OwnCycle) : Unseeing (countPassing outstanding) := by
  intro l s
  simp only [countPassing]
  split <;> rfl

theorem unseeing_grantOwn : Unseeing grantOwn := by
  intro l s
  simp only [grantOwn, ownRequests_hold]
  split
  · rfl
  · rename_i c _ _
    cases c with
    | claim a =>
      have settled : settleReports (hold l s) = hold l (settleReports s) := by
        simp only [settleReports, hold_frame, hold_updates]
        split <;> rfl
      simp only [startOwn, markGranted, settled]
      rfl
    | _ => rfl

/-- R157: the bus is served the same whatever waited before. -/
theorem serveBus_hold (l m : List BusCycle) (s : State) : serveBus l (hold m s) = serveBus l s := by
  induction l generalizing s with
  | nil => rfl
  | cons c l ih =>
    by_cases hc : c = .idle
    · exact hc ▸ ih (setLock false s)
    have same : portFree (hold m s) = portFree s := rfl
    have turn (t : State) : ownTurn (hold m t) = ownTurn t := rfl
    simp only [serveBus_cons hc, same, turn, unseeing_breakLock c m, unseeing_meet m, unseeing_grantOwn m, hold_hold,
      ownRequests_hold, unseeing_countPassing _ m, unseeing_carry c m, ih]

end Sys2Proof.Machine
end

section
/-! # The cycles held behind an own cycle, and the completions of the write-out (R157, R164 to R168, R190 to R197)

As an own cycle completes, the port falls free and the cycles held in BWAIT are served. None of the operations sees
them, so that a longer list is served as a shorter one and then one more cycle presented. -/

namespace Sys2Proof.Machine

/-! ### One more cycle behind those that wait -/

theorem portFree_startOwn (c : OwnCycle) (s : State) : portFree (startOwn c s) = false := by
  simp [portFree, startOwn_passage]

/-- Behind a busy port a presented cycle joins those that wait. -/
theorem present_hold_busy {c : BusCycle} (hc : c ≠ .idle) (l : List BusCycle) (d : BusCycle) {s : State}
    (busy : portFree s = false) : present d (hold (c :: l) s) = hold (c :: l ++ [d]) s := by
  have held : (hold (c :: l) s).passage.held ++ [d] = c :: (l ++ [d]) := rfl
  have still : ¬portFree (hold (c :: l) s) = true := Bool.eq_false_iff.1 busy
  rw [present, held, serveBus_cons hc, if_neg still]
  rfl

/-- R157: the bus's cycles are served in order, so that the last of a list is presented after the others. -/
theorem serveBus_append (l : List BusCycle) (d : BusCycle) (s : State) :
    serveBus (l ++ [d]) s = present d (serveBus l s) := by
  induction l generalizing s with
  | nil => exact (serveBus_hold [d] [] s).symm
  | cons c l ih =>
    by_cases hc : c = .idle
    · exact hc ▸ ih (setLock false s)
    rw [List.cons_append, serveBus_cons hc, serveBus_cons hc]
    split_ifs with free
    · dsimp only
      split_ifs with turn
      · obtain ⟨_, asked, _⟩ := (ownTurn_iff _).1 turn
        obtain ⟨o, rest, requests⟩ := List.exists_cons_of_ne_nil asked
        rw [grantOwn_of_requests requests]
        exact (present_hold_busy hc l d (portFree_startOwn o _)).symm
      · exact ih _
    · exact (present_hold_busy hc l d (Bool.eq_false_iff.2 free)).symm

theorem serveCounting_append (o : List OwnCycle) {l : List BusCycle} (hl : l ≠ []) (d : BusCycle) (s : State) :
    serveCounting o (l ++ [d]) s = present d (serveCounting o l s) := by
  obtain ⟨c, l, rfl⟩ := List.exists_cons_of_ne_nil hl
  by_cases hc : c = .idle
  · exact hc ▸ serveBus_append (.idle :: l) d s
  rw [List.cons_append, serveCounting_cons o hc, serveCounting_cons o hc]
  split_ifs with free
  · exact serveBus_append l d _
  · exact (present_hold_busy hc l d (Bool.eq_false_iff.2 free)).symm

theorem serveCounting_hold (o : List OwnCycle) (l m : List BusCycle) (s : State) :
    serveCounting o l (hold m s) = serveCounting o l s := by
  cases l with
  | nil => exact serveBus_hold [] m s
  | cons c l =>
    by_cases hc : c = .idle
    · exact hc ▸ serveBus_hold (.idle :: l) m s
    have same : portFree (hold m s) = portFree s := rfl
    simp only [serveCounting_cons o hc, same, unseeing_breakLock c m, unseeing_countPassing o m,
      unseeing_meetResults m, unseeing_carry c m, serveBus_hold, hold_hold]

/-- A lone cycle served as the port falls free is carried, whatever waited before. -/
theorem serveCounting_one (o : List OwnCycle) {c : BusCycle} (hc : c ≠ .idle) {s : State}
    (free : portFree s = true) :
    serveCounting o [c] s = hold [] (carry c (meetResults (countPassing o (breakLock c (hold [] s))))) := by
  rw [← serveCounting_hold o [c] [] s, serveCounting_cons o hc,
    if_pos (show portFree (hold [] s) = true from free)]
  rfl

/-! ### What a completion does for them -/

theorem ownRequests_eq (s : State) : ownRequests s = otherRequests s ++ (writeOutRequest s.reports).toList := rfl

theorem otherRequests_of_none {s : State} (h : ownRequests s = []) : otherRequests s = [] :=
  (List.append_eq_nil_iff.1 (ownRequests_eq s ▸ h)).1

theorem countPassing_eq (o : List OwnCycle) (s : State) : countPassing o s = s.setPassage { s.passage with
    fairShare := if o = [] then s.passage.fairShare else min 8 (s.passage.fairShare + 1) } := by
  unfold countPassing
  split_ifs <;> rfl

/-- A completion that serves the held cycles from the port fallen free does for them what R157, R165, R166 and R168
say. -/
theorem heldCyclesFollow_of_served {done : Instr} {offers : Bool} {s w : State} (o : List OwnCycle)
    (served : ∀ l, exec done (s.setPassage { s.passage with held := l }) = .next (serveCounting o l w))
    (free : portFree w = true) (asked : o = ownRequests w ∨ offers = true ∧ o = otherRequests w)
    (handed : w.handed = s.handed) : HeldCyclesFollow done offers s := by
  intro a d x y
  refine ⟨hold [] w, served [], fun p hp => ?_, fun l hl p hp => ?_, fun taken => ?_⟩
  · have passing := (passingCommands_presents hp).1
    refine ⟨o, meetResults (countPassing o (breakLock p.2 (hold [] w))), asked, someResultsTaken_meetResults _, ?_⟩
    exact (served [p.2]).trans (congrArg Host.Outcome.next (serveCounting_one o passing free))
  · have presents : ∀ u, exec p.1 u = .next (present p.2 u) := by
      rcases List.mem_cons.1 hp with rfl | hp
      · exact fun _ => rfl
      · exact (passingCommands_presents hp).2
    refine ⟨_, served l, ?_⟩
    rw [presents, ← serveCounting_append o hl]
    exact served (l ++ [p.2])
  · have met : meetResults (countPassing o (breakLock (.pRead a) (hold [] w))) =
        countPassing o (breakLock (.pRead a) (hold [] w)) :=
      meetResults_none (by simpa using handed.trans taken)
    refine ⟨if o = [] then w.passage.fairShare else min 8 (w.passage.fairShare + 1), ?_, ?_, fun none => ?_,
      fun some => ?_⟩
    · rw [served, serveCounting_one o (c := .pRead a) nofun free, met, countPassing_eq]
      rfl
    · split_ifs
      · exact .inl rfl
      · exact .inr rfl
    · have unasked : o = [] := asked.elim (fun h => h.trans none) (fun h => h.2.trans (otherRequests_of_none none))
      exact if_pos unasked
    · refine if_neg fun unasked => ?_
      rcases some with others | ⟨own, unoffered⟩
      · rcases asked with rfl | ⟨_, rfl⟩
        · exact others (otherRequests_of_none unasked)
        · exact others unasked
      · rcases asked with rfl | ⟨offered, _⟩
        · exact own unasked
        · rw [offered] at unoffered
          cases unoffered

/-! ### The completions of the write-out -/

theorem unseeing_claimAnswered (a : Addr) (w : Word) : Unseeing (claimAnswered a w) := by
  intro l s
  simp only [claimAnswered, hold_frame, hold_updates, unseeing_enterWaiting _ l]
  split
  · split
    · split <;> rfl
    · rfl
  · rfl

theorem unseeing_fillAnswered : Unseeing fillAnswered := by
  intro l s
  simp only [fillAnswered, hold_frame, hold_updates]
  split
  · split <;> rfl
  · rfl

theorem unseeing_ownerAnswered : Unseeing ownerAnswered := by
  intro l s
  simp only [ownerAnswered, hold_frame, hold_updates, unseeing_takeNext l, unseeing_afterFill l]
  split
  · split <;> rfl
  · rfl

/-- The port fallen free, with the choice of the next offer drawn. -/
def writeOutFallen (t : State) : State :=
  (afterDraw t).setPassage { (afterDraw t).passage with port := none }

/-- R168: the write-out's next request counts for the held cycles, or not. -/
theorem freePortWriteOut_eq (t : State) : freePortWriteOut t =
    serveCounting (if drawn t % 2 == 0 then ownRequests (writeOutFallen t) else otherRequests (writeOutFallen t))
      t.passage.held (writeOutFallen t) := by
  simp [freePortWriteOut, freePortOffering, writeOutFallen]

/-- With no cycle waiting the port falls free, and nothing is served. -/
theorem freePortWriteOut_of_none {t : State} (h : t.passage.held = []) :
    freePortWriteOut t = hold [] (writeOutFallen t) := by
  rw [freePortWriteOut_eq, h]
  rfl

/-- A completion of the write-out: its answer sees no cycle that waits, and leaves the power-up reset and what is handed
on. -/
theorem heldCyclesFollow_of_answer {done : Instr} {answer : State → State} {s : State} (unseeing : Unseeing answer)
    (meaning : ∀ l, exec done (s.setPassage { s.passage with held := l }) =
      .next (freePortWriteOut (answer (s.setPassage { s.passage with held := l }))))
    (held : ∀ t, (answer t).passage.held = t.passage.held)
    (reset : (answer (s.setPassage { s.passage with held := [] })).passage.resetInForce = false)
    (handed : (answer (s.setPassage { s.passage with held := [] })).handed = s.handed) :
    HeldCyclesFollow done true s := by
  let none := answer (s.setPassage { s.passage with held := [] })
  let o := if drawn none % 2 == 0 then ownRequests (writeOutFallen none) else otherRequests (writeOutFallen none)
  refine heldCyclesFollow_of_served (w := writeOutFallen none) o (fun l => ?_) ?_ ?_ handed
  · let waits := answer (s.setPassage { s.passage with held := l })
    have same : hold [] waits = hold [] none :=
      (unseeing [] (s.setPassage { s.passage with held := l })).symm.trans
        (unseeing [] (s.setPassage { s.passage with held := [] }))
    have choice : drawn waits = drawn none := (congrArg drawn same :)
    have fallen : hold [] (writeOutFallen waits) = hold [] (writeOutFallen none) :=
      (congrArg writeOutFallen same :)
    have own : ownRequests (writeOutFallen waits) = ownRequests (writeOutFallen none) :=
      (congrArg ownRequests fallen :)
    have other : otherRequests (writeOutFallen waits) = otherRequests (writeOutFallen none) :=
      (congrArg otherRequests fallen :)
    rw [meaning, freePortWriteOut_eq, held, choice, own, other, ← serveCounting_hold _ _ [], fallen, serveCounting_hold]
    rfl
  · exact (portFree_iff _).2 ⟨rfl, reset⟩
  · dsimp only [o]
    split
    · exact .inl rfl
    · exact .inr ⟨rfl, rfl⟩

/-! ### CLAIM_READ_COMPLETE (R190) -/

theorem exec_claimReadComplete {s : State} {a : Addr} (port : s.passage.port = some (.claim a)) :
    exec .claimReadComplete s = .next (claimCompleted a s) := by
  simp only [exec, execClaimReadComplete, port]

/-- R190: the claim's word at its own slot settles the slot and the write-out's place. -/
theorem claimAnswered_of_claim {r : Ring} {o : WriteOut} {s : State} (ring : s.reports.ring = some r)
    (writeOut : s.reports.writeOut = some o) (claim : o.step = .claim) (w : Word) :
    claimAnswered (slotAddr r o.slot 0) w s = s.setReports
      (if w = 0 then { s.reports.setSlot o.slot .filling with writeOut := some { o with step := .filling 1 } }
      else { s.reports.setSlot o.slot .occupied with writeOut := some { o with step := .waiting } }) := by
  simp only [claimAnswered, ring, writeOut, claim, true_and, if_true]
  split_ifs <;> rfl

/-- Settles O16: the slot by the word read, and the held cycles by those that wait behind any completion. -/
theorem claimReadSettlesTheSlot : Obligations.ClaimReadSettlesTheSlot := by
  refine ⟨fun r o s held ring writeOut claim port => ?_, fun a s reset port => ?_⟩
  · let a := slotAddr r o.slot 0
    have answered := claimAnswered_of_claim (s := arrayRead a s) ring writeOut claim (s.word a)
    rw [exec_claimReadComplete port, claimCompleted, freePortWriteOut_of_none (by simpa using held), answered]
    split_ifs <;> rfl
  · refine heldCyclesFollow_of_answer (answer := fun t => claimAnswered a (t.word a) (arrayRead a t)) ?_
      (fun l => exec_claimReadComplete port) (fun t => by simp) (by simpa using reset) (by simp)
    exact fun l t => unseeing_claimAnswered a (t.word a) l (arrayRead a t)

end Sys2Proof.Machine
end

section
/-! # The report's record and its publication (R189, R192, R195 to R197, R200)

The words of 12.3 are concatenations of fields, each of which stands at the width of those after it. -/

namespace Sys2Proof.Machine
open BitVec

/-! ### Fields of a concatenation -/

section
variable {a b c d : Nat} (x : BitVec a) (y : BitVec b) (z : BitVec c) (u : BitVec d)

theorem fields_two : (x ++ y).extractLsb' b a = x ∧ (x ++ y).extractLsb' 0 b = y :=
  ⟨extractLsb'_append_eq_left, extractLsb'_append_eq_right⟩

theorem fields_three :
    (x ++ y ++ z).extractLsb' (b + c) a = x ∧ (x ++ y ++ z).extractLsb' c b = y ∧
    (x ++ y ++ z).extractLsb' 0 c = z := by
  obtain ⟨hx, hy⟩ := fields_two x y
  refine ⟨?_, ?_, extractLsb'_append_eq_right⟩ <;> simp [extractLsb'_append_eq_of_le, *]

theorem fields_four :
    (x ++ y ++ z ++ u).extractLsb' (b + c + d) a = x ∧ (x ++ y ++ z ++ u).extractLsb' (c + d) b = y ∧
    (x ++ y ++ z ++ u).extractLsb' d c = z ∧ (x ++ y ++ z ++ u).extractLsb' 0 d = u := by
  obtain ⟨hx, hy, hz⟩ := fields_three x y z
  refine ⟨?_, ?_, ?_, extractLsb'_append_eq_right⟩ <;> simp [extractLsb'_append_eq_of_le, *]

theorem getLsbD_append_ofBool (e : Bool) (i : Nat) :
    (x ++ ofBool e).getLsbD i = if i = 0 then e else x.getLsbD (i - 1) := by
  cases i with
  | zero => simp [getLsbD_append, -getLsbD_eq_getElem]
  | succ i => simp [getLsbD_append]

end

section
variable {n i len : Nat} {w : BitVec n}

/-- A number that its field can hold is read back. -/
theorem toNat_of_field {k : Nat} (h : w.extractLsb' i len = BitVec.ofNat len k) (small : k < 2 ^ len) :
    (w.extractLsb' i len).toNat = k := by
  rw [h, toNat_ofNat, Nat.mod_eq_of_lt small]

/-- A flag in a field of one bit is read back. -/
theorem getLsbD_of_field {b : Bool} (h : w.extractLsb' i 1 = ofBool b) : w.getLsbD i = b := by
  have bit := congrArg (·.getLsbD 0) h
  simpa using bit

/-- A bit of a field is the word's bit at the field's place. -/
theorem getLsbD_field {x : BitVec len} (h : w.extractLsb' i len = x) {j : Nat} (hj : j < len) :
    w.getLsbD (i + j) = x.getLsbD j := by
  simp only [← h, getLsbD_extractLsb', hj, decide_true, Bool.true_and]

end

/-! ### The words of a report (12.3) -/

theorem nameItemWord_fields (n : Name) (item : Option Nat) :
    (nameItemWord n item).extractLsb' 12 12 = n ∧ (nameItemWord n item).extractLsb' 7 5 = 0 ∧
    (nameItemWord n item).getLsbD 6 = item.isSome ∧
    (item.getD 0 < 64 → ((nameItemWord n item).extractLsb' 0 6).toNat = item.getD 0) := by
  obtain ⟨name, zero, present, number⟩ := fields_four n 0#5 (ofBool item.isSome) (BitVec.ofNat 6 (item.getD 0))
  exact ⟨name, zero, getLsbD_of_field present, toNat_of_field number⟩

/-- The flags, GAP at the highest bit. -/
theorem flags_bits (f : ReportFlags) {i : Nat} (hi : i < 10) :
    [f.gap, f.ambiguous, f.crowded, f.edited, f.stale, f.locked, f.dwell, f.stopped, f.lost, f.reacquired][i]? =
      some (f.bits.getLsbD (9 - i)) := by
  have bits : f.bits.getLsbD (9 - i) = _ := getLsbD_append_ofBool _ f.reacquired _
  iterate 8 rw [getLsbD_append_ofBool] at bits
  rw [bits]
  interval_cases i <;> simp

theorem side_code (s : Side) : s.code = match s with | .none => 0 | .fore => 1 | .aft => 2 := by cases s <;> rfl

theorem kind_code (k : ReportKind) : k.code.toNat = match k with
    | .pick => 1 | .item => 2 | .miss => 3 | .track => 4 | .trackEnd => 5 | .trackLost => 6
    | .refusal => 7 | .condition => 8 | .mark => 9 := by
  cases k <;> rfl

section
variable (r : Report)

/-- w1: the flags, the side, the depth of the path and the low bits of the frame number. -/
theorem word_one_fields :
    (∀ i < 10, [r.flags.gap, r.flags.ambiguous, r.flags.crowded, r.flags.edited, r.flags.stale, r.flags.locked,
      r.flags.dwell, r.flags.stopped, r.flags.lost, r.flags.reacquired][i]? = some ((r.word 1).getLsbD (23 - i))) ∧
    (r.word 1).extractLsb' 12 2 = r.side.code ∧
    (r.path.length ≤ 8 → ((r.word 1).extractLsb' 8 4).toNat = r.path.length) ∧
    (r.word 1).extractLsb' 0 8 = r.frame.extractLsb' 0 8 := by
  obtain ⟨flags, side, depth, frame⟩ :=
    fields_four r.flags.bits r.side.code (BitVec.ofNat 4 r.path.length) (r.frame.setWidth 8)
  refine ⟨fun i hi => ?_, side, fun small => toNat_of_field depth (by omega), ?_⟩
  · have bit : (r.word 1).getLsbD (14 + (9 - i)) = r.flags.bits.getLsbD (9 - i) := getLsbD_field flags (by omega)
    rw [flags_bits _ hi, ← bit, show 14 + (9 - i) = 23 - i by omega]
  · exact frame.trans (setWidth_eq_extractLsb' (by decide))

/-- w3: whether an order's address is given, and the address. -/
theorem word_three_fields :
    (r.word 3).getLsbD 23 = r.orderAddr.isSome ∧ (r.word 3).extractLsb' 18 5 = 0 ∧
    (r.word 3).extractLsb' 0 18 = r.orderAddr.getD 0 := by
  obtain ⟨present, zero, addr⟩ := fields_three (ofBool r.orderAddr.isSome) 0#5 (r.orderAddr.getD 0)
  exact ⟨getLsbD_of_field present, zero, addr⟩

/-- A loft coordinate within 24 bits is read back from its word. -/
theorem loft_word {n : Int} (h : |n| < 8388608) : (BitVec.ofInt 24 n).toInt = n := by
  obtain ⟨low, high⟩ := abs_lt.1 h
  exact toInt_ofInt_eq_self (by decide) low.le high

/-- w4 and w5: the loft position. -/
theorem loft_words : (r.loft = none → r.word 4 = 0 ∧ r.word 5 = 0) ∧
    (∀ p, r.loft = some p → |p.1| < 8388608 → |p.2| < 8388608 →
      (r.word 4).toInt = p.1 ∧ (r.word 5).toInt = p.2) := by
  constructor
  · intro absent
    simp [Report.word, absent]
  · intro p given left right
    simp only [Report.word, given]
    exact ⟨loft_word left, loft_word right⟩

theorem getD_fst {α β : Type} (o : Option (α × β)) (x : α) (y : β) : (o.getD (x, y)).1 = o.elim x (·.1) := by
  cases o <;> rfl

theorem getD_snd {α β : Type} (o : Option (α × β)) (x : α) (y : β) : (o.getD (x, y)).2 = o.elim y (·.2) := by
  cases o <;> rfl

/-- w6: the sample. -/
theorem word_six_fields :
    (r.word 6).extractLsb' 20 4 = 0 ∧ (r.word 6).extractLsb' 10 10 = (r.sample.getD (0, 0)).1 ∧
    (r.word 6).extractLsb' 0 10 = (r.sample.getD (0, 0)).2 := by
  rw [getD_fst, getD_snd]
  exact fields_three 0#4 (r.sample.elim 0 (·.1)) (r.sample.elim 0 (·.2))

/-- w7: the votes. -/
theorem word_seven_fields :
    (r.word 7).extractLsb' 16 8 = 0 ∧
    (r.winnerVotes < 256 → ((r.word 7).extractLsb' 8 8).toNat = r.winnerVotes) ∧
    (r.runnerVotes < 256 → ((r.word 7).extractLsb' 0 8).toNat = r.runnerVotes) := by
  obtain ⟨zero, winner, runner⟩ := fields_three 0#8 (BitVec.ofNat 8 r.winnerVotes) (BitVec.ofNat 8 r.runnerVotes)
  exact ⟨zero, toNat_of_field winner, toNat_of_field runner⟩

/-- w8: the runner-up. -/
theorem word_eight_fields : (r.runner = none → r.word 8 = 0) ∧
    (∀ k, r.runner = some k → (r.word 8).extractLsb' 12 12 = k.name ∧ (r.word 8).extractLsb' 7 5 = 0 ∧
      (r.word 8).getLsbD 6 = k.item.isSome ∧
      (k.item.getD 0 < 64 → ((r.word 8).extractLsb' 0 6).toNat = k.item.getD 0)) := by
  refine ⟨fun absent => by simp [Report.word, absent], fun k given => ?_⟩
  have word : r.word 8 = nameItemWord k.name k.item := by simp [Report.word, given]
  rw [word]
  exact nameItemWord_fields k.name k.item

/-- w9: the item's span. -/
theorem word_nine_fields :
    (r.word 9).extractLsb' 16 8 = 0 ∧
    ((r.itemSpan.getD (0, 0)).1 < 256 → ((r.word 9).extractLsb' 8 8).toNat = (r.itemSpan.getD (0, 0)).1) ∧
    ((r.itemSpan.getD (0, 0)).2 < 256 → ((r.word 9).extractLsb' 0 8).toNat = (r.itemSpan.getD (0, 0)).2) := by
  obtain ⟨zero, first, second⟩ := fields_three 0#8 (BitVec.ofNat 8 (r.itemSpan.elim 0 (·.1)))
    (BitVec.ofNat 8 (r.itemSpan.elim 0 (·.2)))
  rw [getD_fst, getD_snd]
  exact ⟨zero, toNat_of_field first, toNat_of_field second⟩

/-- w10: the code. -/
theorem word_ten_fields :
    (r.word 10).extractLsb' 8 16 = 0 ∧
    (r.code.getD 0 < 256 → ((r.word 10).extractLsb' 0 8).toNat = r.code.getD 0) := by
  obtain ⟨zero, code⟩ := fields_two 0#16 (BitVec.ofNat 8 (r.code.getD 0))
  exact ⟨zero, toNat_of_field code⟩

/-- w11 to w14: the path, two names to a word. -/
theorem path_word {k : Nat} (hk : k < 4) : r.word (11 + k) = pathWord r.path k := by interval_cases k <;> rfl

end

/-- R192: the owner word holds the sequence number and the kind. -/
theorem ownerWord_fields (n : Nat) (k : ReportKind) :
    (ownerWord n k).extractLsb' 16 8 = 0 ∧ (ownerWord n k).extractLsb' 4 4 = 0 ∧
    (n < 256 → ((ownerWord n k).extractLsb' 8 8).toNat = n) ∧ (ownerWord n k).extractLsb' 0 4 = k.code := by
  obtain ⟨high, sequence, low, kind⟩ := fields_four 0#8 (BitVec.ofNat 8 n) 0#4 k.code
  exact ⟨high, low, toNat_of_field sequence, kind⟩

/-! ### The words offered (R189 to R192) -/

theorem writeOutRequest_of_filling {w : ReportWriter} {r : Ring} {o : WriteOut} (ring : w.ring = some r)
    (writeOut : w.writeOut = some o) {k : Nat} (step : o.step = .filling k) :
    writeOutRequest w = some (.fill (r.base + BitVec.ofNat 18 (16 * o.slot + k)) (o.report.word k)) := by
  simp only [writeOutRequest, ring, writeOut, step]
  rfl

theorem writeOutRequest_of_publish {w : ReportWriter} {r : Ring} {o : WriteOut} (ring : w.ring = some r)
    (writeOut : w.writeOut = some o) (step : o.step = .publish) :
    writeOutRequest w =
      some (.owner (r.base + BitVec.ofNat 18 (16 * o.slot)) (ownerWord w.sequence o.report.kind)) := by
  simp only [writeOutRequest, ring, writeOut, step]
  rfl

/-! ### The writes placed -/

theorem exec_fillWritePlaced {s : State} {a : Addr} {w : Word} (port : s.passage.port = some (.fill a w)) :
    exec .fillWritePlaced s = .next (fillPlaced a w s) := by
  simp only [exec, execFillWritePlaced, port]

theorem exec_ownerWordWritePlaced {s : State} {a : Addr} {w : Word} (port : s.passage.port = some (.owner a w)) :
    exec .ownerWordWritePlaced s = .next (ownerPlaced a w s) := by
  simp only [exec, execOwnerWordWritePlaced, port]

theorem fillAnswered_of_filling {o : WriteOut} {k : Nat} {s : State} (writeOut : s.reports.writeOut = some o)
    (step : o.step = .filling k) : fillAnswered s = s.setReports { s.reports with
      writeOut := some { o with step := if k < 15 then .filling (k + 1) else .publish } } := by
  simp only [fillAnswered, writeOut, step]

/-- R189, R190: the write-out's place for the oldest queued record at a slot of the Slot Map. -/
def nextWriteOut (queue : List Report) (slots : List SlotState) (pointer : Nat) : Option WriteOut :=
  queue.head?.map fun q =>
    { report := q, slot := pointer
      step := match slots.getD pointer .unknown with
        | .occupied | .written => .waiting
        | .unknown | .free | .filling => .claim }

/-- The Report Writer as the oldest queued record, if there is one, enters the idle write-out (R189). -/
def nextTaken (w : ReportWriter) : ReportWriter :=
  { w with queue := w.queue.tail, writeOut := nextWriteOut w.queue w.slots w.pointer }

theorem takeNext_of_idle {r : Ring} {s : State} (ring : s.reports.ring = some r)
    (idle : s.reports.writeOut = none) : takeNext s = s.setReports (nextTaken s.reports) := by
  unfold takeNext
  rw [idle, ring]
  cases queue : s.reports.queue with
  | nil =>
    have same : nextTaken s.reports = s.reports := by
      rw [nextTaken, queue]
      exact (congrArg₂ (fun q o => { s.reports with queue := q, writeOut := o }) queue idle).symm
    rw [same]
    rfl
  | cons q l =>
    rw [nextTaken, queue]
    rfl

/-- The publication before the oldest queued record is taken (R192, R195). -/
def publishedReports (r : Ring) (o : WriteOut) (w : ReportWriter) : ReportWriter :=
  { w.setSlot o.slot .written with
    sequence := nextSequence w.sequence
    pointer := nextPointer w.pointer r.slots
    writeOut := none }

theorem ownerAnswered_of_publish {r : Ring} {o : WriteOut} {s : State} (ring : s.reports.ring = some r)
    (writeOut : s.reports.writeOut = some o) (step : o.step = .publish) :
    ownerAnswered s = afterFill (s.setReports (nextTaken (publishedReports r o s.reports))) := by
  have taken := takeNext_of_idle (s := s.setReports (publishedReports r o s.reports)) ring rfl
  simp only [ownerAnswered, ring, writeOut, if_pos step]
  exact congrArg afterFill taken

/-- R195: a slot of the Slot Map made WRITTEN asks for ATTENTION. -/
theorem anyWritten_set {slots : List SlotState} {i : Nat} (h : i < slots.length) :
    anyWritten (slots.set i .written) = true :=
  List.any_eq_true.2 ⟨.written, List.mem_set h _, rfl⟩

/-- R192, R195: the slot in hand is one of the ring's, so that its publication asserts ATTENTION. -/
theorem publishedReports_eq {r : Ring} {o : WriteOut} {w : ReportWriter} (sound : ReportsSound w)
    (ring : w.ring = some r) (writeOut : w.writeOut = some o) : publishedReports r o w = { w with
      slots := w.slots.set o.slot .written
      attention := true
      sequence := nextSequence w.sequence
      pointer := nextPointer w.pointer r.slots
      writeOut := none } := by
  obtain ⟨_, length, pointer⟩ := sound.ring r ring
  obtain ⟨place, _⟩ := sound.writeOut o writeOut
  have slot : o.slot < w.slots.length := by rwa [place, length]
  rw [publishedReports, ReportWriter.setSlot, anyWritten_set slot]

theorem afterFill_of_undeferred {s : State} (h : s.reports.deferral = false) : afterFill s = s := by
  simp [afterFill, h]

/-- The Report Writer as a ring becomes active (R197). -/
def ringApplied (r : Ring) (w : ReportWriter) : ReportWriter :=
  { w with
    ring := some r, shadow := none, deferral := false, slots := List.replicate r.slots .unknown, pointer := 0
    attention := false }

/-- R190, R197: a record claims slot 0 of a ring just become active. -/
theorem enterClaim_ringApplied {r : Ring} {w : ReportWriter} {s : State} {o : Option WriteOut}
    (h : s.reports = { ringApplied r w with writeOut := o }) (q : Report) : (enterClaim q 0 s).reports =
      { ringApplied r w with writeOut := some { report := q, slot := 0, step := .claim } } := by
  have unknown : s.reports.slotState 0 = .unknown := by
    rw [h]
    simp [ReportWriter.slotState, ringApplied]
  simp only [enterClaim, unknown, State.setReports_reports]
  rw [h]

/-- R197: a record that holds no slot claims slot 0 of the ring that becomes active. -/
theorem applyRing_of_unheld {r : Ring} {s : State}
    (unheld : ∀ o, s.reports.writeOut = some o → o.step = .claim ∨ o.step = .waiting)
    (emptied : s.reports.writeOut = none → s.reports.queue = []) :
    (applyRing r s).reports = { ringApplied r s.reports with
      writeOut := s.reports.writeOut.map fun o => { report := o.report, slot := 0, step := .claim } } := by
  simp only [applyRing, State.setReports_reports]
  cases writeOut : s.reports.writeOut with
  | none =>
    simp only [takeNext, State.setReports_reports, ringApplied, emptied writeOut, Option.map_none]
  | some o =>
    rcases unheld o writeOut with step | step <;> simp only [step]
    · refine enterClaim_ringApplied (o := some { o with step := .waiting }) ?_ o.report
      simp [enterWaiting, ringApplied]
    · exact enterClaim_ringApplied (o := some o) (by simp [ringApplied, writeOut]) o.report

theorem afterFill_of_deferred {pending : Ring} {s : State} (deferral : s.reports.deferral = true)
    (shadow : s.reports.shadow = some pending) : afterFill s = applyRing pending s := by
  simp [afterFill, deferral, shadow]

theorem ownerAnswered_held (s : State) : (ownerAnswered s).passage.held = s.passage.held ∧
    (ownerAnswered s).passage.resetInForce = s.passage.resetInForce := (PassageLeft.ownerAnswered s).same.port.2

/-- A record just taken into the write-out holds no slot, and none was taken from an empty queue alone. -/
theorem nextTaken_unheld (w : ReportWriter) :
    (∀ o, (nextTaken w).writeOut = some o → o.step = .claim ∨ o.step = .waiting) ∧
    ((nextTaken w).writeOut = none → (nextTaken w).queue = []) := by
  constructor
  · intro o taken
    obtain ⟨q, -, rfl⟩ := Option.map_eq_some_iff.1 taken
    dsimp only
    split <;> simp
  · intro untaken
    have empty : w.queue = [] := List.head?_eq_none_iff.1 (Option.map_eq_none_iff.1 untaken)
    exact congrArg List.tail empty

/-- R196, R197: with a ring deferred, the owner word placed publishes the record, and the ring becomes active with the
oldest queued record at its slot 0. -/
theorem ownerAnswered_of_deferred {r pending : Ring} {o : WriteOut} {s : State} (ring : s.reports.ring = some r)
    (writeOut : s.reports.writeOut = some o) (step : o.step = .publish) (deferral : s.reports.deferral = true)
    (shadow : s.reports.shadow = some pending) : (ownerAnswered s).reports = { ringApplied pending s.reports with
      sequence := nextSequence s.reports.sequence
      queue := s.reports.queue.tail
      writeOut := s.reports.queue.head?.map fun q => { report := q, slot := 0, step := .claim } } := by
  obtain ⟨unheld, emptied⟩ := nextTaken_unheld (publishedReports r o s.reports)
  let u := s.setReports (nextTaken (publishedReports r o s.reports))
  have applied := (ownerAnswered_of_publish ring writeOut step).trans
    (afterFill_of_deferred (s := u) deferral shadow)
  rw [applied, applyRing_of_unheld (s := u) unheld emptied]
  simp [u, ringApplied, nextTaken, nextWriteOut, publishedReports, ReportWriter.setSlot]
  rfl

theorem heldCyclesFollow_of_fill {a : Addr} {w : Word} {s : State} (reset : s.passage.resetInForce = false)
    (port : s.passage.port = some (.fill a w)) : HeldCyclesFollow .fillWritePlaced true s := by
  refine heldCyclesFollow_of_answer (answer := fun t => fillAnswered (arrayWrite a w t)) ?_
    (fun l => exec_fillWritePlaced port) (fun t => by simp) (by simpa using reset) (by simp)
  exact fun l t => unseeing_fillAnswered l (arrayWrite a w t)

theorem heldCyclesFollow_of_owner {a : Addr} {w : Word} {s : State} (reset : s.passage.resetInForce = false)
    (port : s.passage.port = some (.owner a w)) : HeldCyclesFollow .ownerWordWritePlaced true s := by
  refine heldCyclesFollow_of_answer (answer := fun t => ownerAnswered (arrayWrite a w t)) ?_
    (fun l => exec_ownerWordWritePlaced port) (fun t => (ownerAnswered_held _).1.trans (by simp))
    ((ownerAnswered_held _).2.trans (by simpa using reset)) (by simp)
  exact fun l t => unseeing_ownerAnswered l (arrayWrite a w t)

/-- The part of the state with which the port falls free after a completion of the write-out. -/
theorem writeOutReleased (t : State) :
    (hold [] (writeOutFallen t)).store = t.store ∧
    (hold [] (writeOutFallen t)).pins = { t.pins with bwait := false } ∧
    (hold [] (writeOutFallen t)).reports = t.reports ∧ (hold [] (writeOutFallen t)).passage.port = none ∧
    (hold [] (writeOutFallen t)).passage.held = [] ∧ (hold [] (writeOutFallen t)).time = t.time :=
  ⟨rfl, rfl, rfl, rfl, rfl, rfl⟩

/-- Settles O17: the write-out word by word, its publication with and without a ring deferred, the cycles that wait
behind its writes, and the record's layout. -/
theorem fillAndPublishTheReport : Obligations.FillAndPublishTheReport := by
  refine ⟨fun a w k o s held writeOut step port => ?_,
    fun a w r o s held sound ring writeOut step undeferred port => ?_,
    fun a w r pending o s held sound ring writeOut step deferral shadow port => ?_,
    fun a w s reset => ⟨heldCyclesFollow_of_fill reset, heldCyclesFollow_of_owner reset⟩,
    fun r o w ring writeOut => ⟨fun k => writeOutRequest_of_filling ring writeOut,
      writeOutRequest_of_publish ring writeOut⟩, fun r => ?_, fun n kind => ?_⟩
  · have answered := fillAnswered_of_filling (s := arrayWrite a w s) writeOut step
    rw [exec_fillWritePlaced port, fillPlaced, freePortWriteOut_of_none (by simpa using held), answered]
    rfl
  · intro pointer slots
    have answered := (ownerAnswered_of_publish (s := arrayWrite a w s) ring writeOut step).trans
      (afterFill_of_undeferred undeferred)
    rw [exec_ownerWordWritePlaced port, ownerPlaced,
      freePortWriteOut_of_none ((ownerAnswered_held _).1.trans (by simpa using held)), answered,
      show (arrayWrite a w s).reports = s.reports from rfl, publishedReports_eq sound ring writeOut]
    rfl
  · have kept := (ownerAnswered_held (arrayWrite a w s)).1.trans (by simpa using held)
    have pins : (ownerAnswered (arrayWrite a w s)).pins = (arrayWrite a w s).pins := by simp
    have store : (ownerAnswered (arrayWrite a w s)).store = Store.writeAt s.store a.toNat w := by simp; rfl
    have reports := ownerAnswered_of_deferred (s := arrayWrite a w s) ring writeOut step deferral shadow
    have time : (ownerAnswered (arrayWrite a w s)).time = s.time := by simp
    refine ⟨hold [] (writeOutFallen (ownerAnswered (arrayWrite a w s))), ?_, ?_⟩
    · rw [exec_ownerWordWritePlaced port, ownerPlaced, freePortWriteOut_of_none kept]
    · obtain ⟨freedStore, freedPins, freedReports, freedPort, freedHeld, freedTime⟩ :=
        writeOutReleased (ownerAnswered (arrayWrite a w s))
      rw [freedStore, freedPins, freedReports, freedTime, store, pins, reports]
      exact ⟨rfl, rfl, rfl, freedPort, freedHeld, time⟩
  · obtain ⟨flags, side, depth, frame⟩ := word_one_fields r
    obtain ⟨name, nameZero, item, number⟩ := nameItemWord_fields (r.name.getD 0) r.item
    obtain ⟨addressed, addrZero, addr⟩ := word_three_fields r
    obtain ⟨unplaced, placed⟩ := loft_words r
    obtain ⟨sampleZero, sampleX, sampleY⟩ := word_six_fields r
    obtain ⟨votesZero, winner, runner⟩ := word_seven_fields r
    obtain ⟨alone, second⟩ := word_eight_fields r
    obtain ⟨spanZero, spanFirst, spanLast⟩ := word_nine_fields r
    obtain ⟨codeZero, code⟩ := word_ten_fields r
    exact ⟨flags, side.trans (side_code r.side), depth, frame, name, nameZero, item, number, addressed, addrZero, addr,
      unplaced, placed, sampleZero, sampleX, sampleY, votesZero, winner, runner, alone, second, spanZero, spanFirst,
      spanLast, codeZero, code, fun k hk => path_word r hk ▸ fields_two _ _, rfl⟩
  · obtain ⟨high, low, sequence, kindCode⟩ := ownerWord_fields n kind
    exact ⟨high, low, sequence, (congrArg BitVec.toNat kindCode).trans (kind_code kind)⟩

end Sys2Proof.Machine
end

section
/-! # The arbiter's grants (R157, R160, R162, R165 to R167, R169) -/

namespace Sys2Proof.Machine

/-! ### Cycles that are carried at once, and cycles that wait -/

/-- R157, R158: what the carrying of a P-read leaves, with no cycle waiting behind it. -/
theorem hold_carryPRead (a : Addr) (s : State) : hold [] (carryPRead a s) = { s with
    pins := { s.pins with bd := s.word a, ma := a, md := s.word a, mcyc := .idle, bwait := false }
    passage := { s.passage with held := [] } } := rfl

/-- Settles O8: the granted P-read is carried, after the lock has been released or taken. -/
theorem pReadAnswersStoredWord : Obligations.PReadAnswersStoredWord := by
  intro a s granted
  have carried : present (.pRead a) s = _ := granted.present_carried nofun
  have carriedLocked : present (.lockedPRead a) s = _ := granted.present_carried nofun
  have presented : exec (.pRead a) s = .next (present (.pRead a) s) := rfl
  have presentedLocked : exec (.lockedPRead a) s = .next (present (.lockedPRead a) s) := rfl
  rw [presented, presentedLocked, carried, carriedLocked]
  simp only [carry, hold_carryPRead]
  exact ⟨rfl, rfl⟩

/-- Settles O12: an idle cycle needs no grant, and any other waits at a port that is not free. -/
theorem idleAndWaitingCycles : Obligations.IdleAndWaitingCycles := by
  refine ⟨fun s held => ?_, fun a d x y s taken held p hp => ?_⟩
  · have presented : exec .idleCycle s = .next (present .idle s) := rfl
    rw [presented, present, held]
    rfl
  · obtain ⟨passing, presents⟩ := passingCommands_presents hp
    have busy : portFree s = false := by
      refine Bool.eq_false_iff.2 fun free => ?_
      obtain ⟨port, reset⟩ := (portFree_iff s).1 free
      rcases taken with own | power
      · exact own port
      · rw [reset] at power
        cases power
    rw [presents, present_held passing busy held]
    rfl

/-- Settles O7: the port falls free with the reset, and a lone P-read that waits is carried. -/
theorem resetEndServesTheHeldCycle : Obligations.ResetEndServesTheHeldCycle := by
  intro s reset port settled
  obtain ⟨notices, handed⟩ := settled
  let u := s.setPassage { s.passage with resetInForce := false }
  have ends : exec .powerUpResetEnd s = .next (serveBus s.passage.held u) :=
    congrArg Host.Outcome.next (if_pos reset)
  refine ⟨fun none => ?_, fun a one few => ?_⟩
  · rw [ends, none]
    rfl
  · have free : portFree u = true := (portFree_iff u).2 ⟨port, rfl⟩
    have met : meet (breakLock (.pRead a) u) = breakLock (.pRead a) u := meet_none notices handed
    have noTurn : ownTurn (breakLock (.pRead a) u) = false := ownTurn_of_few (by simp [u, few])
    have carried : serveBus [.pRead a] u = hold [] (carry (.pRead a) (countPassing
        (ownRequests (breakLock (.pRead a) u)) (breakLock (.pRead a) u))) := by
      rw [serveBus_cons (c := .pRead a) nofun, if_pos free, met]
      exact if_neg (by simp [noTurn])
    rw [ends, one, carried, countPassing_ownRequests]
    simp only [carry, hold_carryPRead]
    rfl

/-! ### The own cycle granted in place of a presented one -/

/-- R160: a presented cycle leaves the lock released, but for a locked P-write at a lock that is held. -/
theorem breakLock_eq_setLock {a : Addr} {d : Word} {x y : Coord} {p : Instr × BusCycle}
    (hp : p ∈ passingCommands a d x y) {s : State}
    (h : p.1 ≠ .lockedPWrite a d ∨ s.passage.lockHeld = false ∧ s.passage.pairWritten = false) :
    breakLock p.2 s = setLock false s := by
  simp only [passingCommands, List.mem_cons, List.not_mem_nil, or_false] at hp
  rcases hp with rfl | rfl | rfl | rfl | rfl
  case inr.inr.inr.inr =>
    obtain ⟨lock, pair⟩ := h.resolve_left (absurd rfl)
    exact congrArg s.setPassage (congrArg₂ (fun l p => { s.passage with lockHeld := l, pairWritten := p }) lock pair)
  all_goals rfl

/-- R162, R165: a P-read presented at an open port is carried, or passed over with every notice taken. -/
theorem present_pRead_open {s : State} (h : PortOpen s) (a : Addr) :
    (∃ t c, NoticesTaken t ∧ present (.pRead a) s = hold [.pRead a] (startOwn c t)) ∨
    (∃ t, t.store = s.store ∧ t.passage.port = none ∧ present (.pRead a) s = hold [] (carryPRead a t)) := by
  let t := meet (breakLock (.pRead a) s)
  have presented : present (.pRead a) s = if ownTurn t then hold [.pRead a] (grantOwn t)
      else hold [] (carry (.pRead a) (countPassing (ownRequests t) t)) := present_open nofun h
  by_cases turn : ownTurn t = true
  · obtain ⟨_, asked, open_⟩ := (ownTurn_iff t).1 turn
    obtain ⟨_, _, taken⟩ := (ownMayBeGranted_iff t).1 open_
    obtain ⟨c, rest, requests⟩ := List.exists_cons_of_ne_nil asked
    rw [if_pos turn, grantOwn_of_requests requests] at presented
    exact .inl ⟨t, c, taken, presented⟩
  · rw [if_neg turn] at presented
    refine .inr ⟨_, ?_, ?_, presented⟩
    · simp [t]
    · rw [countPassing_eq]
      simpa [t, breakLock, setLock] using h.1

/-- Settles O13: at a count of 8 the own cycle is granted and the presented one held, and a grant among notices finds
them all taken. -/
theorem fairShareGrantsOneOwnCycle : Obligations.FairShareGrantsOneOwnCycle := by
  refine ⟨fun a d x y c rest s busFree full requests p hp unlocked => ?_, fun a s portOpen _ => ?_⟩
  · obtain ⟨passing, presents⟩ := passingCommands_presents hp
    obtain ⟨portOpen, notices, handed⟩ := busFree
    let u := setLock false s
    have asked : ownRequests u = c :: rest := requests
    have turn : ownTurn u = true := (ownTurn_iff u).2 ⟨full.ge, by simp [asked],
      (ownMayBeGranted_iff u).2 ⟨portOpen.portFree, rfl, notices⟩⟩
    have presented : present p.2 s = hold [p.2] (startOwn c u) := by
      have opened := present_open passing portOpen
      rw [breakLock_eq_setLock hp unlocked, show meet (setLock false s) = u from meet_none notices handed] at opened
      exact opened.trans ((if_pos turn).trans (by rw [grantOwn_of_requests asked]))
    refine ⟨_, (presents s).trans (congrArg Host.Outcome.next presented), ?_, ?_, ?_⟩
    · show { (startOwn c u).passage with held := [p.2] } = _
      rw [startOwn_passage]
      rfl
    · show { (startOwn c u).pins with bwait := true } = _
      rw [startOwn_pins]
      rfl
    · simp [u, setLock]
  · rcases present_pRead_open portOpen a with ⟨t, c, taken, presented⟩ | ⟨t, store, port, presented⟩
    · refine ⟨_, congrArg Host.Outcome.next presented, fun _ => ⟨?_, rfl, rfl⟩, fun free => ?_⟩
      · show (startOwn c t).passage.notices = .none
        rw [startOwn_passage]
        exact taken
      · have own : (startOwn c t).passage.port = some c := by rw [startOwn_passage]
        cases own.symm.trans free
    · refine ⟨_, congrArg Host.Outcome.next presented, fun own => absurd ?_ own, fun _ => ⟨?_, rfl, rfl⟩⟩
      · have kept : (carryPRead a t).passage = t.passage := by simp
        exact (congrArg Passage.port kept).trans port
      · show t.word a = s.word a
        rw [State.word, store]
        rfl

/-! ### OWN_CYCLE_GRANT -/

/-- R162, R165: with no cycle presented, an own cycle is granted once every notice is taken, when the lock is released
and a request stands. -/
theorem exec_ownCycleGrant {s : State} (h : PortOpen s) : exec .ownCycleGrant s =
    .next (if (settleNotices s).passage.lockHeld = false ∧ ownRequests (settleNotices s) ≠ []
      then grantOwn (settleNotices s) else s) := by
  obtain ⟨port, reset, held⟩ := h
  have free : portFree (settleNotices s) = true := by simp [portFree_iff, port, reset]
  have may : ownMayBeGranted (settleNotices s) = true ↔ (settleNotices s).passage.lockHeld = false := by
    rw [ownMayBeGranted_iff]
    exact ⟨fun granted => granted.2.1, fun lock => ⟨free, lock, settleNotices_taken s⟩⟩
  refine congrArg Host.Outcome.next (if_congr ?_ rfl rfl)
  simp [may, held]

theorem exec_ownCycleGrant_of_taken {s : State} (h : PortOpen s) (taken : NoticesTaken s)
    (lock : s.passage.lockHeld = false) : exec .ownCycleGrant s = .next (grantOwn s) := by
  rw [exec_ownCycleGrant h, settleNotices_none taken]
  by_cases none : ownRequests s = []
  · simp [grantOwn, none]
  · rw [if_pos ⟨lock, none⟩]

section
variable (n : Nat) (s : State)

theorem followerTakes_choices : (followerTakes n s).choices = s.choices :=
  takeOldest_keeps (P := fun t => t.choices = s.choices) (fun _ _ h => by simpa using h) n _ (by simp)

theorem menuTakes_choices : (menuTakes n s).choices = s.choices :=
  takeOldest_keeps (P := fun t => t.choices = s.choices) (fun _ _ h => by simpa [menuNotice] using h) n _ (by simp)

theorem gateTakes_choices : (gateTakes n s).choices = s.choices :=
  takeOldest_keeps (P := fun t => t.choices = s.choices) (fun _ _ h => by simpa using h) n _ (by simp)

theorem passTakes_choices : (passTakes n s).choices = s.choices :=
  takeOldest_keeps (P := fun t => t.choices = s.choices) (fun _ _ h => by simpa using h) n _ (by simp)

theorem trackerTakes_choices : (trackerTakes n s).choices = s.choices :=
  takeOldest_keeps (P := fun t => t.choices = s.choices) (fun _ _ h => by simpa using h) n _ (by simp)

theorem reportsTakes_choices : (reportsTakes n s).choices = s.choices :=
  takeOldest_keeps (P := fun t => t.choices = s.choices) (fun _ _ h => by simpa using h) n _ (by simp)

end

theorem endPair_choices (s : State) : (endPair s).choices = s.choices := by
  unfold endPair
  split_ifs <;> rfl

/-- The taking of every notice draws no free choice. -/
theorem settleNotices_choices (s : State) : (settleNotices s).choices = s.choices := by
  unfold settleNotices
  split_ifs
  · rfl
  · rw [endPair_choices, reportsTakes_choices, trackerTakes_choices, passTakes_choices, gateTakes_choices,
      menuTakes_choices, followerTakes_choices]

/-- R199: the requests settled are those up to one of them. -/
theorem requestsAfter_suffix (p : Report → Bool) (l : List Report) : requestsAfter p l <:+ l := by
  induction l with
  | nil => exact List.suffix_rfl
  | cons r l ih =>
    rw [requestsAfter]
    split_ifs
    · exact ih.trans (List.suffix_cons r l)
    · exact List.suffix_cons r l
    · exact List.suffix_rfl

/-- R199: only a claim read settles requests of its moment. -/
theorem startOwn_writeOut {s : State} {c : OwnCycle} (h : writeOutRequest s.reports = some c) :
    ∃ l, l <:+ s.moment.reports ∧ ((∀ a, c ≠ .claim a) → l = s.moment.reports) ∧
      startOwn c s = ((s.setPins (c.pins s.pins)).setPassage
        { s.passage with port := some c, fairShare := 0 }).setMoment { s.moment with reports := l } := by
  rcases writeOutRequest_kind h with ⟨a, rfl⟩ | ⟨a, d, rfl⟩ | ⟨a, d, rfl⟩
  · cases writeOut : s.reports.writeOut with
    | none =>
      refine ⟨s.moment.reports, List.suffix_rfl, fun _ => rfl, ?_⟩
      simp only [startOwn, markGranted, settleReports, writeOut]
      rfl
    | some o =>
      refine ⟨_, requestsAfter_suffix (fun r => { r with flags := o.report.flags } == o.report) s.moment.reports,
        fun other => absurd rfl (other a), ?_⟩
      simp only [startOwn, markGranted, settleReports, writeOut]
      rfl
  · exact ⟨s.moment.reports, List.suffix_rfl, fun _ => rfl, rfl⟩
  · exact ⟨s.moment.reports, List.suffix_rfl, fun _ => rfl, rfl⟩

/-- R167: the consumption writes and the write-back stand before the write-out's request. -/
theorem otherRequests_length {s : State} (h : ConsumptionSound s.pass.consumption) :
    (otherRequests s).length ≤ 5 := by
  have writeBack : (writeBackRequest s.tracker).toList.length ≤ 1 := by cases writeBackRequest s.tracker <;> simp
  have consumption := h.length
  simp only [otherRequests, List.length_append, List.length_map]
  omega

/-- Settles O14: the first request in the order of R167 is granted, and the notices are all taken before it is. -/
theorem ownCycleGrantFollowsTheOrder : Obligations.OwnCycleGrantFollowsTheOrder := by
  refine ⟨fun s portOpen taken lock => ?_, fun s portOpen _ => ?_⟩
  · have grant {c : OwnCycle} {l : List OwnCycle} (asked : ownRequests s = c :: l) :
        exec .ownCycleGrant s = .next (startOwn c s) := by
      rw [exec_ownCycleGrant_of_taken portOpen taken lock, grantOwn_of_requests asked]
    refine ⟨fun e l listed => ?_, fun b none waits fresh => ?_, fun c none idle asks => ?_,
      fun none idle unasked => ?_,
      fun sound c asks => ⟨otherRequests s, by rw [ownRequests_eq, asks]; rfl, otherRequests_length sound⟩⟩
    · exact (grant (by rw [ownRequests, listed]; rfl)).trans rfl
    · have first : ownRequests s = .writeBack b.addr b.word :: (writeOutRequest s.reports).toList := by
        simp [ownRequests, none, writeBackRequest, waits, fresh]
      rw [grant first]
      simp only [startOwn, markGranted, waits]
      rfl
    · obtain ⟨l, suffix, kept, started⟩ := startOwn_writeOut asks
      have first : ownRequests s = [c] := by simp [ownRequests, none, writeBackRequest, idle, asks]
      exact ⟨l, suffix, kept, (grant first).trans (congrArg Host.Outcome.next started)⟩
    · have nothing : ownRequests s = [] := by simp [ownRequests, none, writeBackRequest, idle, unasked]
      rw [exec_ownCycleGrant_of_taken portOpen taken lock]
      simp [grantOwn, nothing]
  · intro t
    have opened : PortOpen t := by simpa [PortOpen, t] using portOpen
    have taken : NoticesTaken t := settleNotices_taken s
    refine ⟨taken, settleNotices_choices s, by simp [t], fun lock asked => ?_, fun barred => ?_⟩
    · rw [exec_ownCycleGrant portOpen, exec_ownCycleGrant_of_taken opened taken lock, if_pos ⟨lock, asked⟩]
    · have ungranted : ¬(t.passage.lockHeld = false ∧ ownRequests t ≠ []) := by
        rintro ⟨lock, asked⟩
        rcases barred with locked | none
        · rw [lock] at locked
          cases locked
        · exact asked none
      rw [exec_ownCycleGrant portOpen, if_neg ungranted]

end Sys2Proof.Machine
end
